-- ==== Sys2Proof/Word.lean ====
section
/-! DEFINITION. The byte, the one machine word of the block (spec/00_scope.md R11; every other value is an unbounded natural, R10). -/

namespace Sys2Proof

/-- A byte: 8 bits, bit 0 the least significant (R11). -/
abbrev Byte := BitVec 8

/-- A byte sequence `s[0] .. s[len(s)-1]` (R11). -/
abbrev Bytes := List Byte

end Sys2Proof
end

