-- ==== Sys2Proof/Machine/Cause.lean ====
section
/-! DEFINITION. The causes of `ERROR` and `CFGERR` and their codes (spec/60_exceptions.md R251). -/

namespace Sys2Proof.Machine

/-- The causes of R251, in the table's order; `NONE` is the absence of a cause. -/
inductive Cause where
  | cfgMinMatch
  | cfgCacheSize
  | cfgXdelta3Interleaved
  | cfgTableSize
  | cfgBlockSize
  | cfgCodeTable
  | cfgParam
  | encEmptyWindow
  | encNoOpcode
  | encLengthAssert
  | encRange
  | seqOrder
  | badMagic
  | badVersion
  | secondaryCompression
  | customTableUnsupported
  | reservedBits
  | varintOverflow
  | targetWindowUnsupported
  | sourceSegmentRange
  | windowTooLarge
  | lengthInvariant
  | invalidMode
  | invalidAddress
  | copyRange
  | instructionOverrun
  | truncatedSection
  | excessData
  | checksumMismatch
  deriving DecidableEq, Repr

/-- The code of a cause (R251). -/
def causeCode : Cause → Nat
  | .cfgMinMatch => 0x01
  | .cfgCacheSize => 0x02
  | .cfgXdelta3Interleaved => 0x03
  | .cfgTableSize => 0x04
  | .cfgBlockSize => 0x05
  | .cfgCodeTable => 0x06
  | .cfgParam => 0x07
  | .encEmptyWindow => 0x10
  | .encNoOpcode => 0x11
  | .encLengthAssert => 0x12
  | .encRange => 0x13
  | .seqOrder => 0x18
  | .badMagic => 0x20
  | .badVersion => 0x21
  | .secondaryCompression => 0x22
  | .customTableUnsupported => 0x23
  | .reservedBits => 0x24
  | .varintOverflow => 0x25
  | .targetWindowUnsupported => 0x30
  | .sourceSegmentRange => 0x31
  | .windowTooLarge => 0x32
  | .lengthInvariant => 0x33
  | .invalidMode => 0x40
  | .invalidAddress => 0x41
  | .copyRange => 0x42
  | .instructionOverrun => 0x43
  | .truncatedSection => 0x44
  | .excessData => 0x45
  | .checksumMismatch => 0x46

/-- The code of the latch `failed`: `0x00` when no error has occurred (R251). -/
def latchCode : Option Cause → Nat
  | none => 0x00
  | some c => causeCode c

/-- Whether a cause is of class `cfg`, so that its outcome is `CFGERR` and not `ERROR` (R251, R13). -/
def causeIsCfg : Cause → Bool
  | .cfgMinMatch | .cfgCacheSize | .cfgXdelta3Interleaved | .cfgTableSize | .cfgBlockSize | .cfgCodeTable | .cfgParam => true
  | _ => false

end Sys2Proof.Machine
end

