-- ==== Sys2Proof/Config.lean ====
section
/-! DEFINITION. What a session's configuration fixes (spec/00_scope.md R7, R8; spec/10_state.md R26), the code-table entry (spec/30_encoding.md R72, R73), and the free values. -/

namespace Sys2Proof

/-- The four instruction types (R72). -/
inductive InstType where
  | noop
  | add
  | run
  | copy
  deriving DecidableEq, Repr

/-- `(inst, size, mode)`: one half of a code-table entry, or one delivered instruction with its explicit size in place of the table size 0 (R73, R202). -/
structure Triple where
  inst : InstType
  size : Nat
  mode : Nat
  deriving DecidableEq, Repr

/-- A code-table entry: six bytes, two triples (R73, R160). -/
structure Entry where
  inst1 : Byte
  size1 : Byte
  mode1 : Byte
  inst2 : Byte
  size2 : Byte
  mode2 : Byte
  deriving DecidableEq, Repr

/-- `CODE_TABLE` (R8): the default table of R80, or the rows of another table, in opcode order. -/
inductive CodeTable where
  | standard
  | custom (rows : List Entry)
  deriving DecidableEq, Repr

/-- `CHECKSUM_FORMAT` (R8). -/
inductive ChecksumFormat where
  | absent
  | sdch
  | xdelta3
  deriving DecidableEq, Repr

/-- `TARGET_COPY_MODE` (R8, R240). -/
inductive TargetCopyMode where
  | combined
  | refuse
  deriving DecidableEq, Repr

/-- The configuration of one session (R7, R8, R26), written at session creation and constant afterwards. -/
structure Cfg where
  blockSize       : Nat
  minMatch        : Nat
  bufferChunkSize : Nat
  interleaved     : Bool
  checksumFormat  : ChecksumFormat
  nearSize        : Nat
  sameSize        : Nat
  codeTable       : CodeTable
  maxWindowSize   : Nat
  hashMult        : Nat
  maxMatches      : Nat
  targetCopyMode  : TargetCopyMode
  tableMaxLog2    : Nat
  deriving DecidableEq, Repr

/-- Free value: `ipos` after `VARINT_OVERFLOW` inside `ID_NEXT`, which the spec leaves unspecified (spec/60_exceptions.md R258, 93 U12; log 8). Applied to the decode session's counter of free values. -/
opaque Config.freeCursor : Nat → Nat

/-- Free value: `pendingSecond` after `VARINT_OVERFLOW` inside `ID_NEXT` (R258, 93 U12; log 8). -/
opaque Config.freePending : Nat → Option Byte

/-- Free value: the byte at index `i` past the end of an operand buffer of an encode session's operation, whose rule states no result there (spec/40_varint.md R102; spec/41_address_cache.md R114; log 10). Applied to that session's counter of free values, then to `i`. -/
opaque Config.freeByteEncode : Nat → Nat → Byte

/-- Free value: the same for a decode session's operation (log 10). -/
opaque Config.freeByteDecode : Nat → Nat → Byte

/-- Free value: what `RH_HASH` answers for a window past the end of its space (spec/42_rolling_hash.md R127; log 10). Applied to the encode session's counter of free values. -/
opaque Config.freeHash : Nat → Nat

/-- Free value: what `BH_FIND` answers, `NONE` or `(srcOff, tgtOff, size)`, for a target range outside its rule's condition (spec/43_block_hash.md R141; log 10). -/
opaque Config.freeMatch : Nat → Option (Nat × Nat × Nat)

end Sys2Proof
end

