-- ==== Sys2Proof/Machine/Params.lean ====
section
/-! DEFINITION. The numeric parameters of the block (spec/00_scope.md R7) and the default configuration (R7, R8; spec/10_state.md R26). -/

namespace Sys2Proof.Machine

/-- `HASH_MOD = 2^23` (R7). -/
def hashMod : Nat := 8388608

/-- `VARINT_MAX = 2^31 - 1` (R7). -/
def varintMax : Nat := 2147483647

/-- `CKSUM_MAX = 2^32 - 1` (R7). -/
def cksumMax : Nat := 4294967295

/-- `MAX_PROBES = 16` (R7). -/
def maxProbes : Nat := 16

/-- The default configuration (R7, R26). DESIGN CHOICE, unsafe (log 1): `bufferChunkSize`, `maxWindowSize` and `targetCopyMode` have no default in the spec. -/
def defaultCfg : Cfg where
  blockSize       := 16
  minMatch        := 32
  bufferChunkSize := 1048576
  interleaved     := false
  checksumFormat  := .absent
  nearSize        := 4
  sameSize        := 3
  codeTable       := .standard
  maxWindowSize   := 67108864
  hashMult        := 257
  maxMatches      := 32
  targetCopyMode  := .combined
  tableMaxLog2    := 30

end Sys2Proof.Machine
end

