-- ==== Sys2Proof/Machine/Sessions.lean ====
section
/-! DEFINITION. The parts of the state: the encode session, the decode session, the host's operations (spec/10_state.md R20 to R32; spec/30_encoding.md R95), and the session resets (R30). -/

namespace Sys2Proof.Machine

/-- The two kinds of session (spec/60_exceptions.md R261). -/
inductive Side where
  | encode
  | decode
  deriving DecidableEq, Repr

/-- The byte-addressed spaces (spec/20_memory.md R50), by name. -/
inductive SpaceName where
  | encoderDict
  | tgtIn
  | decoderDict
  | decoded
  | secData
  | secInst
  | secAddr
  | carry
  deriving DecidableEq, Repr

/-- A byte space: its cells in address order, the addresses `0 .. len-1`, each once (log 9). An unlisted address does not exist. -/
abbrev Memory := List Host.Cell

/-- The address cache (R21, R22; spec/41_address_cache.md R110). -/
structure AddrCache where
  near     : List Nat
  nextSlot : Nat
  same     : List Nat
  deriving DecidableEq, Repr

/-- The block-hash index (R21, R22; spec/43_block_hash.md). `built` says whether `BH_BUILD` has run (R31). -/
structure BlockIndex where
  dictLen   : Nat
  numBlocks : Nat
  tableSize : Nat
  hashTable : List (Option Nat)
  nextBlock : List (Option Nat)
  lastBlock : List (Option Nat)
  built     : Bool
  deriving DecidableEq, Repr

/-- The instruction map (R22; spec/45_code_table_and_instruction_map.md): the keys that map to an opcode, in registration order. `built` says whether `IM_BUILD` has run (R31). -/
structure InstrMap where
  first  : List (Triple × Byte)
  second : List ((Byte × Triple) × Byte)
  built  : Bool
  deriving DecidableEq, Repr

/-- The chunk parser's registers `H`, `cand`, `nextEncode` (R21, R24). -/
structure Parser where
  hash       : Nat
  cand       : Nat
  nextEncode : Nat
  deriving DecidableEq, Repr

/-- The window serializer (R21, R27; spec/46_window_serializer.md). `dictLen` is `wsDictLen`; `ready` says whether `WS_INIT` has run (R31). -/
structure Serializer where
  dataBuf   : Memory
  instBuf   : Memory
  addrBuf   : Memory
  lastOpIdx : Option Nat
  targetLen : Nat
  dictLen   : Nat
  cache     : AddrCache
  ready     : Bool
  deriving DecidableEq, Repr

/-- An encode session (R20). `hashReady` says whether `RH_INIT` has run (R31), `headerDone` whether `WS_STREAM_HEADER` has (spec/70_reset_and_hazards.md R282), `frees` counts the free values drawn (log 10): the model's own. -/
structure Encoder where
  cfg         : Cfg
  dict        : Memory
  tgtIn       : Memory
  removeTable : List Nat
  hashReady   : Bool
  index       : BlockIndex
  map         : InstrMap
  parser      : Parser
  ws          : Serializer
  deltaOut    : Memory
  headerDone  : Bool
  failed      : Option Cause
  frees       : Nat
  deriving DecidableEq, Repr

/-- `winMode` (R25). -/
inductive WinMode where
  | standard
  | interleaved
  deriving DecidableEq, Repr

/-- `phase` (R21): what the next bytes of `DELTA_IN` are. -/
inductive Phase where
  | header
  | window
  | body
  deriving DecidableEq, Repr

/-- How far the window in progress has come (spec/70_reset_and_hazards.md R283, log 11): none in progress, header parsed, body started. -/
inductive Stage where
  | closed
  | parsed
  | started
  deriving DecidableEq, Repr

/-- The buffer `ibuf` refers to (R21). -/
inductive InstBuf where
  | secInst
  | carry
  deriving DecidableEq, Repr

/-- The window descriptor (R21; spec/48_window_decoder.md R212); `targetLen` is `winTargetLen`, `mode` is `winMode`. -/
structure WindowHeader where
  winInd      : Byte
  srcSegLen   : Nat
  srcSegPos   : Nat
  deltaLen    : Nat
  targetLen   : Nat
  deltaInd    : Byte
  lenData     : Nat
  lenInst     : Nat
  lenAddr     : Nat
  hasChecksum : Bool
  checksum    : Nat
  mode        : WinMode
  deriving DecidableEq, Repr

/-- A decode operation in progress (log 4): `BD_RUN`, `BD_STEP`, or `DECODE_CALL` with the value `w0` of `written` at its start (spec/49_body_decoder.md R237). -/
inductive Call where
  | bdRun
  | bdStep
  | decodeCall (w0 : Nat)
  deriving DecidableEq, Repr

/-- A decode session (R20). `stage`, `call` and `frees` (the count of free values drawn, log 8, log 10) are the model's own. -/
structure Decoder where
  cfg           : Cfg
  dict          : Memory
  deltaIn       : Memory
  secData       : Memory
  secInst       : Memory
  secAddr       : Memory
  carry         : Memory
  decoded       : Memory
  tgtOut        : Memory
  ibuf          : InstBuf
  ipos          : Nat
  iend          : Nat
  pendingSecond : Option Byte
  win           : WindowHeader
  dpos          : Nat
  apos          : Nat
  remaining     : Nat
  pendingInst   : Option Triple
  cache         : AddrCache
  streamVersion : Option Byte
  inPos         : Nat
  phase         : Phase
  written       : Nat
  failed        : Option Cause
  stage         : Stage
  call          : Option Call
  frees         : Nat
  deriving DecidableEq, Repr

/-- The byte buffers a host may name as the operand of `RH_HASH` (spec/42_rolling_hash.md R127). -/
inductive HashSpace where
  | dict
  | tgtIn
  deriving DecidableEq, Repr

/-- The bound operand of the varint operations: `VARINT_MAX` or `CKSUM_MAX` (spec/40_varint.md R101, R102). -/
inductive VarintBound where
  | varint
  | cksum
  deriving DecidableEq, Repr

/-- What a host does: it creates sessions (spec/70_reset_and_hazards.md R280), lends a target chunk, supplies delta bytes (spec/20_memory.md R50), and issues the operations of spec/30_encoding.md R95. The operations of VI and of AC name the session they are issued to (DESIGN CHOICE, log 32). -/
inductive HostOp where
  | newEncoder (cfg : Cfg) (dict : Bytes)
  | newDecoder (cfg : Cfg) (dict : Bytes)
  | lendTarget (chunk : Bytes)
  | supplyDelta (bytes : Bytes)
  | varintLen (side : Side) (v : Nat)
  | varintEnc (side : Side) (v : Nat) (max : VarintBound)
  | varintDec (side : Side) (buf : Bytes) (pos limit : Nat) (max : VarintBound)
  | acReset (side : Side)
  | acUpdate (side : Side) (a : Nat)
  | acEncode (side : Side) (a here : Nat)
  | acDecode (side : Side) (mode here : Nat) (buf : Bytes) (pos limit : Nat)
  | rhInit
  | rhHash (buf : HashSpace) (off : Nat)
  | rhRoll (h : Nat) (out new : Byte)
  | bhBuild
  | bhFind (h tpos tstart tend : Nat)
  | cpParse (chunk : Bytes)
  | encodeStream (target : Bytes)
  | imBuild
  | imEncode (inst : InstType) (size mode : Nat)
  | wsInit (dictLen : Nat)
  | wsAdd (bytes : Bytes)
  | wsRun (size : Nat) (byte : Byte)
  | wsCopy (offset size : Nat)
  | wsOutput (checksum : Option Nat)
  | wsStreamHeader
  | idInit (buf : InstBuf) (first last : Nat)
  | idNext
  | sdHeader
  | wdParse
  | bdStart
  | bdRun
  | bdStep
  | decodeCall (bytes : Bytes)
  deriving DecidableEq, Repr

/-- A match `(sourceOffset, targetOffset, size)` (R15; spec/43_block_hash.md R141). -/
structure Match where
  srcOff : Nat
  tgtOff : Nat
  size   : Nat
  deriving DecidableEq, Repr

/-- The values an `Ok` outcome carries (spec/00_scope.md R13). -/
inductive Value where
  | unit
  | num (n : Nat)
  | bytes (bs : Bytes)
  | varint (v newpos : Nat)
  | addrField (mode value : Nat) (isByte : Bool)
  | address (a newpos : Nat)
  | found (m : Option Match)
  | instruction (t : Triple)
  deriving DecidableEq, Repr

/-- The results of `DECODE_CALL` (spec/49_body_decoder.md R237). -/
inductive CallResult where
  | success
  | endOfData
  | error
  deriving DecidableEq, Repr

/-- The outcome of a finished operation (R13), or of a `DECODE_CALL` with its `bytesWrittenThisCall` (R237). -/
inductive Reply where
  | ok (v : Value)
  | eod
  | error (c : Cause)
  | cfgErr (c : Cause)
  | call (r : CallResult) (bytesWritten : Nat)
  deriving DecidableEq, Repr

/-! ### Session reset (R30, R280) -/

/-- The reset contents of an address cache (R30, R111): all zero. -/
def AddrCache.reset (cfg : Cfg) : AddrCache where
  near     := List.replicate cfg.nearSize 0
  nextSlot := 0
  same     := List.replicate (cfg.sameSize * 256) 0

/-- An encode session after its session reset (R30). Registers R30 calls unspecified hold the values of log 2. -/
def Encoder.reset (cfg : Cfg) (dict : Memory) : Encoder where
  cfg         := cfg
  dict        := dict
  tgtIn       := []
  removeTable := []
  hashReady   := false
  index       :=
    { dictLen := 0, numBlocks := 0, tableSize := 0, hashTable := [], nextBlock := [], lastBlock := [], built := false }
  map         := { first := [], second := [], built := false }
  parser      := { hash := 0, cand := 0, nextEncode := 0 }
  ws          :=
    { dataBuf := [], instBuf := [], addrBuf := [], lastOpIdx := none, targetLen := 0, dictLen := 0,
      cache := AddrCache.reset cfg, ready := false }
  deltaOut    := []
  headerDone  := false
  failed      := none
  frees       := 0

/-- A decode session after its session reset (R30). Registers R30 calls unspecified hold the values of log 2. -/
def Decoder.reset (cfg : Cfg) (dict : Memory) : Decoder where
  cfg           := cfg
  dict          := dict
  deltaIn       := []
  secData       := []
  secInst       := []
  secAddr       := []
  carry         := []
  decoded       := []
  tgtOut        := []
  ibuf          := .secInst
  ipos          := 0
  iend          := 0
  pendingSecond := none
  win           :=
    { winInd := 0, srcSegLen := 0, srcSegPos := 0, deltaLen := 0, targetLen := 0, deltaInd := 0, lenData := 0,
      lenInst := 0, lenAddr := 0, hasChecksum := false, checksum := 0, mode := .standard }
  dpos          := 0
  apos          := 0
  remaining     := 0
  pendingInst   := none
  cache         := AddrCache.reset cfg
  streamVersion := none
  inPos         := 0
  phase         := .header
  written       := 0
  failed        := none
  stage         := .closed
  call          := none
  frees         := 0

end Sys2Proof.Machine
end

