-- ==== Sys2Proof/Machine/State.lean ====
section
/-! DEFINITION. The state of the machine, why it stops, and its value after reset (spec/10_state.md R20 to R32). -/

namespace Sys2Proof.Machine

/-- Why the machine stops. `noSuchAddress` needs a host that issues `ID_INIT` itself, with a range its buffer does not have or over `secInst` in an interleaved window (log 9), or a state no run reaches; `noProgress` a state no run reaches. -/
inductive Fault where
  /-- A byte was to be read at an index its space does not have (log 9). Raised by the fetch, `ADD`, `RUN` and `COPY` in a state whose cursors or window descriptor do not fit its buffers. Safe. -/
  | noSuchAddress (space : SpaceName) (addr : Nat)
  /-- A loop of an operation used up the bound its rule gives it without ending (log 21). Raised by `CP_PARSE` and `ENCODE_STREAM` under a configuration that its check refuses. Safe. -/
  | noProgress (operation : String)
  deriving DecidableEq, Repr

/-- Why an instruction or operation has no meaning. -/
inductive Refusal where
  /-- An instruction without a meaning yet, by its mnemonic. Raised by `exec`'s arms only. Safe. -/
  | notModelled (mnemonic : String)
  /-- An opcode byte with no row in the default table. Raised by the fetch; unreachable, since all 256 opcodes are defined (spec/30_encoding.md R91). Safe. -/
  | undefinedOpcode
  deriving DecidableEq, Repr

/-- The machine: the two sessions, the operations the host has issued and the machine has not yet executed, oldest first, and the outcome of the latest finished operation (log 5). -/
structure State where
  enc  : Encoder
  dec  : Decoder
  ops  : List HostOp
  last : Option Reply
  deriving DecidableEq, Repr

/-- The machine right after reset: both sessions freshly created with the default configuration over an empty dictionary (log 1), idle, waiting for the host's first operation (R30). -/
def State.reset : State where
  enc  := Encoder.reset defaultCfg []
  dec  := Decoder.reset defaultCfg []
  ops  := []
  last := none

end Sys2Proof.Machine
end

