-- ==== Sys2Proof/Machine/Ops.lean ====
section
/-! DEFINITION. The operations over memories (spec/20_memory.md R50; spec/00_scope.md R14), the outcome of a unit's operation (R13), and taking an error (spec/60_exceptions.md R250, R257). -/

namespace Sys2Proof.Machine

/-! ### Memories -/

/-- The bytes of a memory, in address order (R11). -/
def Memory.bytes (m : Memory) : Bytes :=
  m.map Prod.snd

/-- `len(s)` (R11). -/
def Memory.len (m : Memory) : Nat :=
  m.length

/-- Cells for `bs` at addresses `a`, `a + 1`, ... -/
def Memory.cellsFrom (a : Nat) : Bytes → Memory
  | [] => []
  | b :: bs => (a, b) :: Memory.cellsFrom (a + 1) bs

/-- The memory that holds exactly `bs`, from address 0. -/
def Memory.ofBytes (bs : Bytes) : Memory :=
  Memory.cellsFrom 0 bs

/-- `MemRead(space, a, 1)` (R14); `none` where the space has no address `a`. -/
def Memory.read : Memory → Nat → Option Byte
  | [], _ => none
  | (k, b) :: m, a => if k = a then some b else Memory.read m a

/-- `MemRead(space, pos, n)` (R14), cut where the space ends. -/
def Memory.slice (m : Memory) (pos n : Nat) : Bytes :=
  (m.bytes.drop pos).take n

/-- `Append(buf, bytes)` (R14). -/
def Memory.append (m : Memory) (bs : Bytes) : Memory :=
  m ++ Memory.cellsFrom m.length bs

/-- `MemWrite(buf, a, 1, b)` on an address that exists (R14, R61). -/
def Memory.write (m : Memory) (a : Nat) (b : Byte) : Memory :=
  m.map fun c => if c.1 = a then (a, b) else c

/-- The canonical form: the addresses are `0 .. len-1`, each once, in rising order (log 9). -/
def Memory.wf (m : Memory) : Bool :=
  m.map Prod.fst == List.range m.length

/-! ### Outcomes of a unit's operation (R13) -/

/-- What an operation on a session `σ` gives: `Ok(a)`, `EOD` or `ERROR(c)`/`CFGERR(c)`, each with the session's state after it (R13, R258), or a stop of the model. -/
inductive Act (σ α : Type) where
  | ok (s : σ) (a : α)
  | eod (s : σ)
  | err (s : σ) (c : Cause)
  | bad (f : Fault)
  deriving DecidableEq, Repr

/-- One operation after another: `EOD`, `raise` and a stop end the sequence (R13). -/
def Act.bind {σ α β : Type} (x : Act σ α) (f : σ → α → Act σ β) : Act σ β :=
  match x with
  | .ok s a => f s a
  | .eod s => .eod s
  | .err s c => .err s c
  | .bad b => .bad b

/-- R31: an operation whose state is not initialised is refused with `ERROR(SEQ_ORDER)`, its own state unchanged. -/
def Act.requires {σ α : Type} (ready : Bool) (s : σ) (x : Act σ α) : Act σ α :=
  if ready then x else .err s .seqOrder

/-! ### Taking an error, and the session reset that leaves the failed state (R250, R257, R259) -/

/-- The outcome that reports a cause: `CFGERR` for class `cfg`, `ERROR` for the others (R13, R251). -/
def errorReply (c : Cause) : Reply :=
  if causeIsCfg c then .cfgErr c else .error c

/-- The outcome a decode session reports for a cause: `(Error, written - w0)` when a `DECODE_CALL` is in progress (R237, R258). -/
def Decoder.errorReply (d : Decoder) (c : Cause) : Reply :=
  match d.call with
  | some (.decodeCall w0) => .call .error (d.written - w0)
  | _ => Machine.errorReply c

/-- Taking an error in an encode session: the latch keeps the first cause, the host receives the outcome (R250, R257). -/
def State.raiseEncode (s : State) (c : Cause) : State :=
  { s with enc := { s.enc with failed := some (s.enc.failed.getD c) }, last := some (Machine.errorReply c) }

/-- Taking an error in a decode session: the operation in progress ends, the latch keeps the first cause, the host receives the outcome (R250, R257). -/
def State.raiseDecode (s : State) (c : Cause) : State :=
  { s with
    dec := { s.dec with failed := some (s.dec.failed.getD c), call := none }
    last := some (s.dec.errorReply c) }

/-- Taking an error, the block's only exception (R250): the one operation every `ERROR` and `CFGERR` goes through. -/
def State.raise (s : State) (side : Side) (c : Cause) : State :=
  match side with
  | .encode => s.raiseEncode c
  | .decode => s.raiseDecode c

/-- `EOD` ends the decode operation in progress without an error: `EOD`, or `(EndOfData, written - w0)` for a `DECODE_CALL` (R237, R254). -/
def State.suspend (s : State) : State :=
  { s with
    dec := { s.dec with call := none }
    last := some (match s.dec.call with
      | some (.decodeCall w0) => .call .endOfData (s.dec.written - w0)
      | _ => .eod) }

/-- What a step answers for one piece of a decode operation in progress: it goes on, waits, or fails. -/
def State.settle (s : State) (x : Act Decoder Unit) : Host.Outcome State Fault Refusal :=
  match x with
  | .ok d _ => .next { s with dec := d }
  | .eod d => .next (State.suspend { s with dec := d })
  | .err d c => .next (State.raise { s with dec := d } .decode c)
  | .bad f => .fault f

/-- What a step answers for a whole operation of an encode session. -/
def State.settleEncode (s : State) (x : Act Encoder Value) : Host.Outcome State Fault Refusal :=
  match x with
  | .ok e v => .next { s with enc := e, last := some (.ok v) }
  | .eod e => .next { s with enc := e, last := some .eod }
  | .err e c => .next (State.raise { s with enc := e } .encode c)
  | .bad f => .fault f

/-- What a step answers for a whole operation of a decode session. -/
def State.settleDecode (s : State) (x : Act Decoder Value) : Host.Outcome State Fault Refusal :=
  match x with
  | .ok d v => .next { s with dec := d, last := some (.ok v) }
  | .eod d => .next { s with dec := d, last := some .eod }
  | .err d c => .next (State.raise { s with dec := d } .decode c)
  | .bad f => .fault f

end Sys2Proof.Machine
end

