-- ==== Sys2Proof/Machine/RollingHash.lean ====
section
/-! DEFINITION. The rolling hash RH (spec/42_rolling_hash.md R125 to R130). -/

namespace Sys2Proof.Machine

/-- R127's Horner loop from the value `h`, over the bytes of the window. -/
def hashFrom (c : Nat) (h : Nat) (bs : Bytes) : Nat :=
  bs.foldl (fun h b => (h * c + b.toNat) % hashMod) h

/-- `RH_HASH` (R127) of a window given as its `B` bytes. -/
def rhHash (c : Nat) (bs : Bytes) : Nat :=
  hashFrom c 0 bs

/-- `removeTable[b]` (R126). -/
def removeEntry (blockSize c b : Nat) : Nat :=
  if blockSize = 0 then 0
  else (hashMod - (c ^ (blockSize - 1) % hashMod * b) % hashMod) % hashMod

/-- `RH_INIT` (R126): the 256 entries of `removeTable`. -/
def rhInit (blockSize c : Nat) : List Nat :=
  (List.range 256).map (removeEntry blockSize c)

/-- `RH_ROLL(h, out, in)` (R128). -/
def rhRoll (table : List Nat) (c h : Nat) (out new : Byte) : Nat :=
  ((h + table.getD out.toNat 0) * c + new.toNat) % hashMod

end Sys2Proof.Machine
end

