-- ==== Sys2Proof/Machine/BlockHash.lean ====
section
/-! DEFINITION. The block hash BH: dictionary index and matcher (spec/43_block_hash.md R135 to R144). -/

namespace Sys2Proof.Machine

/-- R136's doubling loop from a size, on fuel; `none` is `CFGERR(CFG_TABLE_SIZE)`. With fuel `maxLog2` the loop from 1 never ends early. -/
def growTable (need maxLog2 : Nat) : Nat → Nat → Option Nat
  | fuel, size =>
    if need ≤ size then some size
    else if 2 ^ maxLog2 < size * 2 then none
    else
      match fuel with
      | 0 => none
      | fuel + 1 => growTable need maxLog2 fuel (size * 2)

/-- The table size for a dictionary length (R136). -/
def tableSizeFor (maxLog2 dictLen : Nat) : Option Nat :=
  growTable (dictLen / 4 + 1) maxLog2 maxLog2 1

/-- The bytes of block `b` (R135). -/
def blockBytes (blockSize : Nat) (dict : Bytes) (b : Nat) : Bytes :=
  (dict.drop (b * blockSize)).take blockSize

/-- R137: insertion of block `b` at the end of its bucket's chain. -/
def BlockIndex.insert (cfg : Cfg) (dict : Bytes) (x : BlockIndex) (b : Nat) : BlockIndex :=
  let j := rhHash cfg.hashMult (blockBytes cfg.blockSize dict b) % x.tableSize
  match x.hashTable.getD j none with
  | none =>
    { x with hashTable := x.hashTable.set j (some b), lastBlock := x.lastBlock.set b (some b) }
  | some f =>
    match x.lastBlock.getD f none with
    | none => x
    | some l => { x with nextBlock := x.nextBlock.set l (some b), lastBlock := x.lastBlock.set f (some b) }

/-- The index before the first insertion: every bucket and link `NONE` (R137). -/
def BlockIndex.empty (dictLen numBlocks tableSize : Nat) : BlockIndex where
  dictLen   := dictLen
  numBlocks := numBlocks
  tableSize := tableSize
  hashTable := List.replicate tableSize none
  nextBlock := List.replicate numBlocks none
  lastBlock := List.replicate numBlocks none
  built     := true

/-- `BH_BUILD(DICT)` (R136, R137); `none` is `CFGERR(CFG_TABLE_SIZE)`. -/
def bhBuild (cfg : Cfg) (dict : Bytes) : Option BlockIndex :=
  match tableSizeFor cfg.tableMaxLog2 dict.length with
  | none => none
  | some tableSize =>
    let n := dict.length / cfg.blockSize
    some ((List.range n).foldl (BlockIndex.insert cfg dict) (BlockIndex.empty dict.length n tableSize))

/-- `BlockEq(b, tpos)` (R138): true byte equality of the `B` bytes; a byte that either side does not have equals nothing. -/
def blockEq (blockSize : Nat) (dict tgt : Bytes) (b tpos : Nat) : Bool :=
  (List.range blockSize).all fun i =>
    match dict[b * blockSize + i]?, tgt[tpos + i]? with
    | some x, some y => x == y
    | _, _ => false

/-- `NextMatching(b, tpos)` (R139) on the failures still allowed in this walk. -/
def nextMatching (blockSize : Nat) (dict tgt : Bytes) (next : List (Option Nat)) (tpos : Nat) : Nat → Option Nat → Option Nat
  | 0, _ => none
  | _ + 1, none => none
  | probes + 1, some b =>
    if blockEq blockSize dict tgt b tpos then some b
    else nextMatching blockSize dict tgt next tpos probes (next.getD b none)

/-- How many leading bytes of two sequences are equal: R140's byte-by-byte loops. -/
def commonLen : Bytes → Bytes → Nat
  | x :: xs, y :: ys => if x = y then commonLen xs ys + 1 else 0
  | _, _ => 0

/-- R140's left extension: equal bytes before two positions, at most `limit`. -/
def extendLeft (dict tgt : Bytes) (spos tpos limit : Nat) : Nat :=
  commonLen ((dict.take spos).reverse.take limit) ((tgt.take tpos).reverse.take limit)

/-- R140's right extension: equal bytes from two positions on, at most `limit`. -/
def extendRight (dict tgt : Bytes) (spos tpos limit : Nat) : Nat :=
  commonLen ((dict.drop spos).take limit) ((tgt.drop tpos).take limit)

/-- `Extend(b, tpos, tstart, tend)` (R140). -/
def extendMatch (blockSize : Nat) (dict tgt : Bytes) (b tpos tstart tend : Nat) : Match :=
  let so := b * blockSize
  let left := extendLeft dict tgt so tpos (min so (tpos - tstart))
  let right := extendRight dict tgt (so + blockSize) (tpos + blockSize)
    (min (dict.length - (so + blockSize)) (tend - (tpos + blockSize)))
  ⟨so - left, tpos - left, blockSize + left + right⟩

/-- R141: replacement of the best match, strict. -/
def betterMatch (best : Option Match) (m : Match) : Option Match :=
  match best with
  | none => some m
  | some b => if b.size < m.size then some m else some b

/-- R141's loop on the verified blocks still allowed in this query. -/
def findLoop (blockSize : Nat) (dict tgt : Bytes) (next : List (Option Nat)) (tpos tstart tend : Nat) :
    Nat → Option Nat → Option Match → Option Match
  | 0, _, best => best
  | _ + 1, none, best => best
  | left + 1, some b, best =>
    findLoop blockSize dict tgt next tpos tstart tend left
      (nextMatching blockSize dict tgt next tpos maxProbes (next.getD b none))
      (betterMatch best (extendMatch blockSize dict tgt b tpos tstart tend))

/-- `BH_FIND(h, tpos, tstart, tend)` (R141). -/
def bhFind (cfg : Cfg) (x : BlockIndex) (dict tgt : Bytes) (h tpos tstart tend : Nat) : Option Match :=
  findLoop cfg.blockSize dict tgt x.nextBlock tpos tstart tend cfg.maxMatches
    (nextMatching cfg.blockSize dict tgt x.nextBlock tpos maxProbes (x.hashTable.getD (h % x.tableSize) none))
    none

end Sys2Proof.Machine
end

