-- ==== Sys2Proof/Machine/Flags.lean ====
section
/-! DEFINITION. The status values (spec/10_state.md R25: the block has no condition codes) and the Adler-32 check (spec/49_body_decoder.md R234). -/

namespace Sys2Proof.Machine

/-- The failure latch of a session (R25, R257). -/
def State.failedOf (s : State) (side : Side) : Option Cause :=
  match side with
  | .encode => s.enc.failed
  | .decode => s.dec.failed

/-- Whether the window's declared target length has been reached, so that the instruction loop ends (R227, R235). -/
def Decoder.outputFull (d : Decoder) : Bool :=
  d.win.targetLen ≤ d.decoded.len

/-- The instruction that waits for its bytes: `pendingInst`, which only an interleaved window uses (R235). -/
def Decoder.waiting (d : Decoder) : Option Triple :=
  match d.win.mode with
  | .standard => none
  | .interleaved => d.pendingInst

/-- R234's loop over the sums `(a, b)`. -/
def adlerFrom (a b : Nat) : Bytes → Nat × Nat
  | [] => (a, b)
  | x :: xs => adlerFrom ((a + x.toNat) % 65521) ((b + (a + x.toNat) % 65521) % 65521) xs

/-- Adler-32 of a byte sequence (R234). -/
def adler32 (bs : Bytes) : Nat :=
  (adlerFrom 1 0 bs).2 * 65536 + (adlerFrom 1 0 bs).1

/-- Whether the window's declared checksum, if any, is that of its decoded bytes (R233). -/
def Decoder.checksumOk (d : Decoder) : Bool :=
  !d.win.hasChecksum || adler32 d.decoded.bytes == d.win.checksum

/-- Whether bytes or a pending half are left over once the target length is reached (R233). -/
def Decoder.hasExcess (d : Decoder) : Bool :=
  match d.win.mode with
  | .standard =>
    d.ipos != d.iend || d.pendingSecond.isSome || d.dpos != d.win.lenData || d.apos != d.win.lenAddr
  | .interleaved => d.remaining != 0 || d.ipos != d.iend || d.pendingSecond.isSome

end Sys2Proof.Machine
end

