-- ==== Sys2Proof/Syntax.lean ====
section
/-! DEFINITION. The instructions: one constructor per row of spec/opcode_table.json (spec/30_encoding.md R80, R96), the default code table's 256 opcodes in order. -/

namespace Sys2Proof

/-- The VCDIFF instructions of the default code table. A constructor is named after its row's mnemonic (R93); `size` is the explicit varint size of a format `SV` row (R74). Every other size and every mode is fixed by the row. -/
inductive Instr where
  | runV (size : Nat)
  | addV (size : Nat)
  | add1
  | add2
  | add3
  | add4
  | add5
  | add6
  | add7
  | add8
  | add9
  | add10
  | add11
  | add12
  | add13
  | add14
  | add15
  | add16
  | add17
  | copyVM0 (size : Nat)
  | copy4M0
  | copy5M0
  | copy6M0
  | copy7M0
  | copy8M0
  | copy9M0
  | copy10M0
  | copy11M0
  | copy12M0
  | copy13M0
  | copy14M0
  | copy15M0
  | copy16M0
  | copy17M0
  | copy18M0
  | copyVM1 (size : Nat)
  | copy4M1
  | copy5M1
  | copy6M1
  | copy7M1
  | copy8M1
  | copy9M1
  | copy10M1
  | copy11M1
  | copy12M1
  | copy13M1
  | copy14M1
  | copy15M1
  | copy16M1
  | copy17M1
  | copy18M1
  | copyVM2 (size : Nat)
  | copy4M2
  | copy5M2
  | copy6M2
  | copy7M2
  | copy8M2
  | copy9M2
  | copy10M2
  | copy11M2
  | copy12M2
  | copy13M2
  | copy14M2
  | copy15M2
  | copy16M2
  | copy17M2
  | copy18M2
  | copyVM3 (size : Nat)
  | copy4M3
  | copy5M3
  | copy6M3
  | copy7M3
  | copy8M3
  | copy9M3
  | copy10M3
  | copy11M3
  | copy12M3
  | copy13M3
  | copy14M3
  | copy15M3
  | copy16M3
  | copy17M3
  | copy18M3
  | copyVM4 (size : Nat)
  | copy4M4
  | copy5M4
  | copy6M4
  | copy7M4
  | copy8M4
  | copy9M4
  | copy10M4
  | copy11M4
  | copy12M4
  | copy13M4
  | copy14M4
  | copy15M4
  | copy16M4
  | copy17M4
  | copy18M4
  | copyVM5 (size : Nat)
  | copy4M5
  | copy5M5
  | copy6M5
  | copy7M5
  | copy8M5
  | copy9M5
  | copy10M5
  | copy11M5
  | copy12M5
  | copy13M5
  | copy14M5
  | copy15M5
  | copy16M5
  | copy17M5
  | copy18M5
  | copyVM6 (size : Nat)
  | copy4M6
  | copy5M6
  | copy6M6
  | copy7M6
  | copy8M6
  | copy9M6
  | copy10M6
  | copy11M6
  | copy12M6
  | copy13M6
  | copy14M6
  | copy15M6
  | copy16M6
  | copy17M6
  | copy18M6
  | copyVM7 (size : Nat)
  | copy4M7
  | copy5M7
  | copy6M7
  | copy7M7
  | copy8M7
  | copy9M7
  | copy10M7
  | copy11M7
  | copy12M7
  | copy13M7
  | copy14M7
  | copy15M7
  | copy16M7
  | copy17M7
  | copy18M7
  | copyVM8 (size : Nat)
  | copy4M8
  | copy5M8
  | copy6M8
  | copy7M8
  | copy8M8
  | copy9M8
  | copy10M8
  | copy11M8
  | copy12M8
  | copy13M8
  | copy14M8
  | copy15M8
  | copy16M8
  | copy17M8
  | copy18M8
  | add1Copy4M0
  | add1Copy5M0
  | add1Copy6M0
  | add2Copy4M0
  | add2Copy5M0
  | add2Copy6M0
  | add3Copy4M0
  | add3Copy5M0
  | add3Copy6M0
  | add4Copy4M0
  | add4Copy5M0
  | add4Copy6M0
  | add1Copy4M1
  | add1Copy5M1
  | add1Copy6M1
  | add2Copy4M1
  | add2Copy5M1
  | add2Copy6M1
  | add3Copy4M1
  | add3Copy5M1
  | add3Copy6M1
  | add4Copy4M1
  | add4Copy5M1
  | add4Copy6M1
  | add1Copy4M2
  | add1Copy5M2
  | add1Copy6M2
  | add2Copy4M2
  | add2Copy5M2
  | add2Copy6M2
  | add3Copy4M2
  | add3Copy5M2
  | add3Copy6M2
  | add4Copy4M2
  | add4Copy5M2
  | add4Copy6M2
  | add1Copy4M3
  | add1Copy5M3
  | add1Copy6M3
  | add2Copy4M3
  | add2Copy5M3
  | add2Copy6M3
  | add3Copy4M3
  | add3Copy5M3
  | add3Copy6M3
  | add4Copy4M3
  | add4Copy5M3
  | add4Copy6M3
  | add1Copy4M4
  | add1Copy5M4
  | add1Copy6M4
  | add2Copy4M4
  | add2Copy5M4
  | add2Copy6M4
  | add3Copy4M4
  | add3Copy5M4
  | add3Copy6M4
  | add4Copy4M4
  | add4Copy5M4
  | add4Copy6M4
  | add1Copy4M5
  | add1Copy5M5
  | add1Copy6M5
  | add2Copy4M5
  | add2Copy5M5
  | add2Copy6M5
  | add3Copy4M5
  | add3Copy5M5
  | add3Copy6M5
  | add4Copy4M5
  | add4Copy5M5
  | add4Copy6M5
  | add1Copy4M6
  | add2Copy4M6
  | add3Copy4M6
  | add4Copy4M6
  | add1Copy4M7
  | add2Copy4M7
  | add3Copy4M7
  | add4Copy4M7
  | add1Copy4M8
  | add2Copy4M8
  | add3Copy4M8
  | add4Copy4M8
  | copy4M0Add1
  | copy4M1Add1
  | copy4M2Add1
  | copy4M3Add1
  | copy4M4Add1
  | copy4M5Add1
  | copy4M6Add1
  | copy4M7Add1
  | copy4M8Add1
  deriving DecidableEq, Repr

end Sys2Proof
end

