-- ==== Sys2Proof/WellFormed.lean ====
section
/-! DEFINITION. Well-formed instructions: an explicit size is at most `VARINT_MAX` (spec/30_encoding.md R79). -/

namespace Sys2Proof

/-- The explicit size of a format `SV` instruction; `none` where the size is the table's (R74). -/
def Instr.explicitSize : Instr → Option Nat
  | .runV size => some size
  | .addV size => some size
  | .add1 => none
  | .add2 => none
  | .add3 => none
  | .add4 => none
  | .add5 => none
  | .add6 => none
  | .add7 => none
  | .add8 => none
  | .add9 => none
  | .add10 => none
  | .add11 => none
  | .add12 => none
  | .add13 => none
  | .add14 => none
  | .add15 => none
  | .add16 => none
  | .add17 => none
  | .copyVM0 size => some size
  | .copy4M0 => none
  | .copy5M0 => none
  | .copy6M0 => none
  | .copy7M0 => none
  | .copy8M0 => none
  | .copy9M0 => none
  | .copy10M0 => none
  | .copy11M0 => none
  | .copy12M0 => none
  | .copy13M0 => none
  | .copy14M0 => none
  | .copy15M0 => none
  | .copy16M0 => none
  | .copy17M0 => none
  | .copy18M0 => none
  | .copyVM1 size => some size
  | .copy4M1 => none
  | .copy5M1 => none
  | .copy6M1 => none
  | .copy7M1 => none
  | .copy8M1 => none
  | .copy9M1 => none
  | .copy10M1 => none
  | .copy11M1 => none
  | .copy12M1 => none
  | .copy13M1 => none
  | .copy14M1 => none
  | .copy15M1 => none
  | .copy16M1 => none
  | .copy17M1 => none
  | .copy18M1 => none
  | .copyVM2 size => some size
  | .copy4M2 => none
  | .copy5M2 => none
  | .copy6M2 => none
  | .copy7M2 => none
  | .copy8M2 => none
  | .copy9M2 => none
  | .copy10M2 => none
  | .copy11M2 => none
  | .copy12M2 => none
  | .copy13M2 => none
  | .copy14M2 => none
  | .copy15M2 => none
  | .copy16M2 => none
  | .copy17M2 => none
  | .copy18M2 => none
  | .copyVM3 size => some size
  | .copy4M3 => none
  | .copy5M3 => none
  | .copy6M3 => none
  | .copy7M3 => none
  | .copy8M3 => none
  | .copy9M3 => none
  | .copy10M3 => none
  | .copy11M3 => none
  | .copy12M3 => none
  | .copy13M3 => none
  | .copy14M3 => none
  | .copy15M3 => none
  | .copy16M3 => none
  | .copy17M3 => none
  | .copy18M3 => none
  | .copyVM4 size => some size
  | .copy4M4 => none
  | .copy5M4 => none
  | .copy6M4 => none
  | .copy7M4 => none
  | .copy8M4 => none
  | .copy9M4 => none
  | .copy10M4 => none
  | .copy11M4 => none
  | .copy12M4 => none
  | .copy13M4 => none
  | .copy14M4 => none
  | .copy15M4 => none
  | .copy16M4 => none
  | .copy17M4 => none
  | .copy18M4 => none
  | .copyVM5 size => some size
  | .copy4M5 => none
  | .copy5M5 => none
  | .copy6M5 => none
  | .copy7M5 => none
  | .copy8M5 => none
  | .copy9M5 => none
  | .copy10M5 => none
  | .copy11M5 => none
  | .copy12M5 => none
  | .copy13M5 => none
  | .copy14M5 => none
  | .copy15M5 => none
  | .copy16M5 => none
  | .copy17M5 => none
  | .copy18M5 => none
  | .copyVM6 size => some size
  | .copy4M6 => none
  | .copy5M6 => none
  | .copy6M6 => none
  | .copy7M6 => none
  | .copy8M6 => none
  | .copy9M6 => none
  | .copy10M6 => none
  | .copy11M6 => none
  | .copy12M6 => none
  | .copy13M6 => none
  | .copy14M6 => none
  | .copy15M6 => none
  | .copy16M6 => none
  | .copy17M6 => none
  | .copy18M6 => none
  | .copyVM7 size => some size
  | .copy4M7 => none
  | .copy5M7 => none
  | .copy6M7 => none
  | .copy7M7 => none
  | .copy8M7 => none
  | .copy9M7 => none
  | .copy10M7 => none
  | .copy11M7 => none
  | .copy12M7 => none
  | .copy13M7 => none
  | .copy14M7 => none
  | .copy15M7 => none
  | .copy16M7 => none
  | .copy17M7 => none
  | .copy18M7 => none
  | .copyVM8 size => some size
  | .copy4M8 => none
  | .copy5M8 => none
  | .copy6M8 => none
  | .copy7M8 => none
  | .copy8M8 => none
  | .copy9M8 => none
  | .copy10M8 => none
  | .copy11M8 => none
  | .copy12M8 => none
  | .copy13M8 => none
  | .copy14M8 => none
  | .copy15M8 => none
  | .copy16M8 => none
  | .copy17M8 => none
  | .copy18M8 => none
  | .add1Copy4M0 => none
  | .add1Copy5M0 => none
  | .add1Copy6M0 => none
  | .add2Copy4M0 => none
  | .add2Copy5M0 => none
  | .add2Copy6M0 => none
  | .add3Copy4M0 => none
  | .add3Copy5M0 => none
  | .add3Copy6M0 => none
  | .add4Copy4M0 => none
  | .add4Copy5M0 => none
  | .add4Copy6M0 => none
  | .add1Copy4M1 => none
  | .add1Copy5M1 => none
  | .add1Copy6M1 => none
  | .add2Copy4M1 => none
  | .add2Copy5M1 => none
  | .add2Copy6M1 => none
  | .add3Copy4M1 => none
  | .add3Copy5M1 => none
  | .add3Copy6M1 => none
  | .add4Copy4M1 => none
  | .add4Copy5M1 => none
  | .add4Copy6M1 => none
  | .add1Copy4M2 => none
  | .add1Copy5M2 => none
  | .add1Copy6M2 => none
  | .add2Copy4M2 => none
  | .add2Copy5M2 => none
  | .add2Copy6M2 => none
  | .add3Copy4M2 => none
  | .add3Copy5M2 => none
  | .add3Copy6M2 => none
  | .add4Copy4M2 => none
  | .add4Copy5M2 => none
  | .add4Copy6M2 => none
  | .add1Copy4M3 => none
  | .add1Copy5M3 => none
  | .add1Copy6M3 => none
  | .add2Copy4M3 => none
  | .add2Copy5M3 => none
  | .add2Copy6M3 => none
  | .add3Copy4M3 => none
  | .add3Copy5M3 => none
  | .add3Copy6M3 => none
  | .add4Copy4M3 => none
  | .add4Copy5M3 => none
  | .add4Copy6M3 => none
  | .add1Copy4M4 => none
  | .add1Copy5M4 => none
  | .add1Copy6M4 => none
  | .add2Copy4M4 => none
  | .add2Copy5M4 => none
  | .add2Copy6M4 => none
  | .add3Copy4M4 => none
  | .add3Copy5M4 => none
  | .add3Copy6M4 => none
  | .add4Copy4M4 => none
  | .add4Copy5M4 => none
  | .add4Copy6M4 => none
  | .add1Copy4M5 => none
  | .add1Copy5M5 => none
  | .add1Copy6M5 => none
  | .add2Copy4M5 => none
  | .add2Copy5M5 => none
  | .add2Copy6M5 => none
  | .add3Copy4M5 => none
  | .add3Copy5M5 => none
  | .add3Copy6M5 => none
  | .add4Copy4M5 => none
  | .add4Copy5M5 => none
  | .add4Copy6M5 => none
  | .add1Copy4M6 => none
  | .add2Copy4M6 => none
  | .add3Copy4M6 => none
  | .add4Copy4M6 => none
  | .add1Copy4M7 => none
  | .add2Copy4M7 => none
  | .add3Copy4M7 => none
  | .add4Copy4M7 => none
  | .add1Copy4M8 => none
  | .add2Copy4M8 => none
  | .add3Copy4M8 => none
  | .add4Copy4M8 => none
  | .copy4M0Add1 => none
  | .copy4M1Add1 => none
  | .copy4M2Add1 => none
  | .copy4M3Add1 => none
  | .copy4M4Add1 => none
  | .copy4M5Add1 => none
  | .copy4M6Add1 => none
  | .copy4M7Add1 => none
  | .copy4M8Add1 => none

/-- R79: the size "is a natural `<= VARINT_MAX`". -/
def Instr.wellFormed (i : Instr) : Bool :=
  match i.explicitSize with
  | some size => decide (size ≤ Machine.varintMax)
  | none => true

end Sys2Proof
end

