-- ==== Sys2Proof/Decode.lean ====
section
/-! DEFINITION. The wire encodings of the instructions-and-sizes stream: the varint (spec/30_encoding.md R71; spec/40_varint.md), the default code table (R80), the decoder of one instruction from bytes, total and rejecting by name, and the encoder. -/

namespace Sys2Proof

/-! ### The varint (R71, R100 to R102) -/

/-- R100's loop, on fuel: `v` passes always suffice for `v`. -/
def varintLenFrom : Nat → Nat → Nat
  | 0, _ => 1
  | fuel + 1, v => if v < 128 then 1 else varintLenFrom fuel (v / 128) + 1

/-- `VARINT_LEN(v)` (R100): the number of bytes of the minimal encoding. -/
def varintLen (v : Nat) : Nat :=
  varintLenFrom v v

/-- R101's loop: the `k` lowest 7-bit groups of `v`, most significant first, bit 7 set on all but the last. -/
def varintGroups (v : Nat) : Nat → Bytes
  | 0 => []
  | k + 1 => BitVec.ofNat 8 (v / 128 ^ k % 128 + if k = 0 then 0 else 128) :: varintGroups v k

/-- The bytes `VARINT_ENC` writes for a `v` within its bound (R101). -/
def varintEncode (v : Nat) : Bytes :=
  varintGroups v (varintLen v)

/-- What reading a varint gives (R102): its value with the bytes after it, `EOD`, or `ERROR(VARINT_OVERFLOW)`. -/
inductive VarintRead where
  | ok (v : Nat) (rest : Bytes)
  | eod
  | overflow
  deriving DecidableEq, Repr

/-- R102's loop over the available bytes: the end-of-varint test comes first, then the overflow test. -/
def varintDecodeFrom (max : Nat) : Nat → Bytes → VarintRead
  | _, [] => .eod
  | r, b :: bs =>
    if b.toNat < 128 then .ok (r + b.toNat) bs
    else if r + (b.toNat - 128) > max / 128 then .overflow
    else varintDecodeFrom max ((r + (b.toNat - 128)) * 128) bs

/-- `VARINT_DEC` (R102) on the bytes from `pos` to `limit`. -/
def varintDecode (max : Nat) (bs : Bytes) : VarintRead :=
  varintDecodeFrom max 0 bs

/-! ### The code table (R72, R73, R80) -/

/-- The type codes of R72; other codes are no type (R161 (a) refuses a table that holds one). -/
def instTypeOf (code : Byte) : Option InstType :=
  match code.toNat with
  | 0 => some .noop
  | 1 => some .add
  | 2 => some .run
  | 3 => some .copy
  | _ => none

/-- The first triple of an entry (R73). -/
def Entry.firstTriple (e : Entry) : Triple :=
  ⟨(instTypeOf e.inst1).getD .noop, e.size1.toNat, e.mode1.toNat⟩

/-- The second triple of an entry (R73). -/
def Entry.secondTriple (e : Entry) : Triple :=
  ⟨(instTypeOf e.inst2).getD .noop, e.size2.toNat, e.mode2.toNat⟩

/-- An entry from its six numbers. -/
def entryOf (inst1 size1 mode1 inst2 size2 mode2 : Nat) : Entry :=
  ⟨BitVec.ofNat 8 inst1, BitVec.ofNat 8 size1, BitVec.ofNat 8 mode1, BitVec.ofNat 8 inst2, BitVec.ofNat 8 size2, BitVec.ofNat 8 mode2⟩

/-- The default code table, line by line as R80 gives it. -/
def defaultEntry (op : Nat) : Entry :=
  if op = 0 then entryOf 2 0 0 0 0 0
  else if op = 1 then entryOf 1 0 0 0 0 0
  else if op ≤ 18 then entryOf 1 (op - 1) 0 0 0 0
  else if op ≤ 162 then
    entryOf 3 (if (op - 19) % 16 = 0 then 0 else (op - 19) % 16 + 3) ((op - 19) / 16) 0 0 0
  else if op ≤ 234 then
    entryOf 1 ((op - 163) % 12 / 3 + 1) 0 3 ((op - 163) % 12 % 3 + 4) ((op - 163) / 12)
  else if op ≤ 246 then entryOf 1 ((op - 235) % 4 + 1) 0 3 4 ((op - 235) / 4 + 6)
  else entryOf 3 4 (op - 247) 1 1 0

/-- The 256 rows of a code table. -/
def CodeTable.rows : CodeTable → List Entry
  | .standard => (List.range 256).map defaultEntry
  | .custom rows => rows

/-- `CT[op]` (R160). A valid table has all 256 rows (R161); a missing row, which no session that passed its configuration check has, reads as two inactive triples. -/
def CodeTable.entry (t : CodeTable) (op : Byte) : Entry :=
  match t with
  | .standard => defaultEntry op.toNat
  | .custom rows => rows.getD op.toNat (entryOf 0 0 0 0 0 0)

/-! ### The instructions of the default table -/

/-- What an opcode byte says: an instruction whose size is the table's, or one that an explicit varint size completes (R74). -/
inductive OpcodeForm where
  | fixed (i : Instr)
  | sized (f : Nat → Instr)
  | undefined

/-- The instruction of a form, given the explicit size where there is one. -/
def OpcodeForm.complete (f : OpcodeForm) (size : Nat) : Option Instr :=
  match f with
  | .fixed i => some i
  | .sized g => some (g size)
  | .undefined => none

/-- R80, R96: the row of the default code table an opcode byte selects. -/
def opcodeForm (op : Nat) : OpcodeForm :=
  match op with
  | 0 => .sized .runV
  | 1 => .sized .addV
  | 2 => .fixed .add1
  | 3 => .fixed .add2
  | 4 => .fixed .add3
  | 5 => .fixed .add4
  | 6 => .fixed .add5
  | 7 => .fixed .add6
  | 8 => .fixed .add7
  | 9 => .fixed .add8
  | 10 => .fixed .add9
  | 11 => .fixed .add10
  | 12 => .fixed .add11
  | 13 => .fixed .add12
  | 14 => .fixed .add13
  | 15 => .fixed .add14
  | 16 => .fixed .add15
  | 17 => .fixed .add16
  | 18 => .fixed .add17
  | 19 => .sized .copyVM0
  | 20 => .fixed .copy4M0
  | 21 => .fixed .copy5M0
  | 22 => .fixed .copy6M0
  | 23 => .fixed .copy7M0
  | 24 => .fixed .copy8M0
  | 25 => .fixed .copy9M0
  | 26 => .fixed .copy10M0
  | 27 => .fixed .copy11M0
  | 28 => .fixed .copy12M0
  | 29 => .fixed .copy13M0
  | 30 => .fixed .copy14M0
  | 31 => .fixed .copy15M0
  | 32 => .fixed .copy16M0
  | 33 => .fixed .copy17M0
  | 34 => .fixed .copy18M0
  | 35 => .sized .copyVM1
  | 36 => .fixed .copy4M1
  | 37 => .fixed .copy5M1
  | 38 => .fixed .copy6M1
  | 39 => .fixed .copy7M1
  | 40 => .fixed .copy8M1
  | 41 => .fixed .copy9M1
  | 42 => .fixed .copy10M1
  | 43 => .fixed .copy11M1
  | 44 => .fixed .copy12M1
  | 45 => .fixed .copy13M1
  | 46 => .fixed .copy14M1
  | 47 => .fixed .copy15M1
  | 48 => .fixed .copy16M1
  | 49 => .fixed .copy17M1
  | 50 => .fixed .copy18M1
  | 51 => .sized .copyVM2
  | 52 => .fixed .copy4M2
  | 53 => .fixed .copy5M2
  | 54 => .fixed .copy6M2
  | 55 => .fixed .copy7M2
  | 56 => .fixed .copy8M2
  | 57 => .fixed .copy9M2
  | 58 => .fixed .copy10M2
  | 59 => .fixed .copy11M2
  | 60 => .fixed .copy12M2
  | 61 => .fixed .copy13M2
  | 62 => .fixed .copy14M2
  | 63 => .fixed .copy15M2
  | 64 => .fixed .copy16M2
  | 65 => .fixed .copy17M2
  | 66 => .fixed .copy18M2
  | 67 => .sized .copyVM3
  | 68 => .fixed .copy4M3
  | 69 => .fixed .copy5M3
  | 70 => .fixed .copy6M3
  | 71 => .fixed .copy7M3
  | 72 => .fixed .copy8M3
  | 73 => .fixed .copy9M3
  | 74 => .fixed .copy10M3
  | 75 => .fixed .copy11M3
  | 76 => .fixed .copy12M3
  | 77 => .fixed .copy13M3
  | 78 => .fixed .copy14M3
  | 79 => .fixed .copy15M3
  | 80 => .fixed .copy16M3
  | 81 => .fixed .copy17M3
  | 82 => .fixed .copy18M3
  | 83 => .sized .copyVM4
  | 84 => .fixed .copy4M4
  | 85 => .fixed .copy5M4
  | 86 => .fixed .copy6M4
  | 87 => .fixed .copy7M4
  | 88 => .fixed .copy8M4
  | 89 => .fixed .copy9M4
  | 90 => .fixed .copy10M4
  | 91 => .fixed .copy11M4
  | 92 => .fixed .copy12M4
  | 93 => .fixed .copy13M4
  | 94 => .fixed .copy14M4
  | 95 => .fixed .copy15M4
  | 96 => .fixed .copy16M4
  | 97 => .fixed .copy17M4
  | 98 => .fixed .copy18M4
  | 99 => .sized .copyVM5
  | 100 => .fixed .copy4M5
  | 101 => .fixed .copy5M5
  | 102 => .fixed .copy6M5
  | 103 => .fixed .copy7M5
  | 104 => .fixed .copy8M5
  | 105 => .fixed .copy9M5
  | 106 => .fixed .copy10M5
  | 107 => .fixed .copy11M5
  | 108 => .fixed .copy12M5
  | 109 => .fixed .copy13M5
  | 110 => .fixed .copy14M5
  | 111 => .fixed .copy15M5
  | 112 => .fixed .copy16M5
  | 113 => .fixed .copy17M5
  | 114 => .fixed .copy18M5
  | 115 => .sized .copyVM6
  | 116 => .fixed .copy4M6
  | 117 => .fixed .copy5M6
  | 118 => .fixed .copy6M6
  | 119 => .fixed .copy7M6
  | 120 => .fixed .copy8M6
  | 121 => .fixed .copy9M6
  | 122 => .fixed .copy10M6
  | 123 => .fixed .copy11M6
  | 124 => .fixed .copy12M6
  | 125 => .fixed .copy13M6
  | 126 => .fixed .copy14M6
  | 127 => .fixed .copy15M6
  | 128 => .fixed .copy16M6
  | 129 => .fixed .copy17M6
  | 130 => .fixed .copy18M6
  | 131 => .sized .copyVM7
  | 132 => .fixed .copy4M7
  | 133 => .fixed .copy5M7
  | 134 => .fixed .copy6M7
  | 135 => .fixed .copy7M7
  | 136 => .fixed .copy8M7
  | 137 => .fixed .copy9M7
  | 138 => .fixed .copy10M7
  | 139 => .fixed .copy11M7
  | 140 => .fixed .copy12M7
  | 141 => .fixed .copy13M7
  | 142 => .fixed .copy14M7
  | 143 => .fixed .copy15M7
  | 144 => .fixed .copy16M7
  | 145 => .fixed .copy17M7
  | 146 => .fixed .copy18M7
  | 147 => .sized .copyVM8
  | 148 => .fixed .copy4M8
  | 149 => .fixed .copy5M8
  | 150 => .fixed .copy6M8
  | 151 => .fixed .copy7M8
  | 152 => .fixed .copy8M8
  | 153 => .fixed .copy9M8
  | 154 => .fixed .copy10M8
  | 155 => .fixed .copy11M8
  | 156 => .fixed .copy12M8
  | 157 => .fixed .copy13M8
  | 158 => .fixed .copy14M8
  | 159 => .fixed .copy15M8
  | 160 => .fixed .copy16M8
  | 161 => .fixed .copy17M8
  | 162 => .fixed .copy18M8
  | 163 => .fixed .add1Copy4M0
  | 164 => .fixed .add1Copy5M0
  | 165 => .fixed .add1Copy6M0
  | 166 => .fixed .add2Copy4M0
  | 167 => .fixed .add2Copy5M0
  | 168 => .fixed .add2Copy6M0
  | 169 => .fixed .add3Copy4M0
  | 170 => .fixed .add3Copy5M0
  | 171 => .fixed .add3Copy6M0
  | 172 => .fixed .add4Copy4M0
  | 173 => .fixed .add4Copy5M0
  | 174 => .fixed .add4Copy6M0
  | 175 => .fixed .add1Copy4M1
  | 176 => .fixed .add1Copy5M1
  | 177 => .fixed .add1Copy6M1
  | 178 => .fixed .add2Copy4M1
  | 179 => .fixed .add2Copy5M1
  | 180 => .fixed .add2Copy6M1
  | 181 => .fixed .add3Copy4M1
  | 182 => .fixed .add3Copy5M1
  | 183 => .fixed .add3Copy6M1
  | 184 => .fixed .add4Copy4M1
  | 185 => .fixed .add4Copy5M1
  | 186 => .fixed .add4Copy6M1
  | 187 => .fixed .add1Copy4M2
  | 188 => .fixed .add1Copy5M2
  | 189 => .fixed .add1Copy6M2
  | 190 => .fixed .add2Copy4M2
  | 191 => .fixed .add2Copy5M2
  | 192 => .fixed .add2Copy6M2
  | 193 => .fixed .add3Copy4M2
  | 194 => .fixed .add3Copy5M2
  | 195 => .fixed .add3Copy6M2
  | 196 => .fixed .add4Copy4M2
  | 197 => .fixed .add4Copy5M2
  | 198 => .fixed .add4Copy6M2
  | 199 => .fixed .add1Copy4M3
  | 200 => .fixed .add1Copy5M3
  | 201 => .fixed .add1Copy6M3
  | 202 => .fixed .add2Copy4M3
  | 203 => .fixed .add2Copy5M3
  | 204 => .fixed .add2Copy6M3
  | 205 => .fixed .add3Copy4M3
  | 206 => .fixed .add3Copy5M3
  | 207 => .fixed .add3Copy6M3
  | 208 => .fixed .add4Copy4M3
  | 209 => .fixed .add4Copy5M3
  | 210 => .fixed .add4Copy6M3
  | 211 => .fixed .add1Copy4M4
  | 212 => .fixed .add1Copy5M4
  | 213 => .fixed .add1Copy6M4
  | 214 => .fixed .add2Copy4M4
  | 215 => .fixed .add2Copy5M4
  | 216 => .fixed .add2Copy6M4
  | 217 => .fixed .add3Copy4M4
  | 218 => .fixed .add3Copy5M4
  | 219 => .fixed .add3Copy6M4
  | 220 => .fixed .add4Copy4M4
  | 221 => .fixed .add4Copy5M4
  | 222 => .fixed .add4Copy6M4
  | 223 => .fixed .add1Copy4M5
  | 224 => .fixed .add1Copy5M5
  | 225 => .fixed .add1Copy6M5
  | 226 => .fixed .add2Copy4M5
  | 227 => .fixed .add2Copy5M5
  | 228 => .fixed .add2Copy6M5
  | 229 => .fixed .add3Copy4M5
  | 230 => .fixed .add3Copy5M5
  | 231 => .fixed .add3Copy6M5
  | 232 => .fixed .add4Copy4M5
  | 233 => .fixed .add4Copy5M5
  | 234 => .fixed .add4Copy6M5
  | 235 => .fixed .add1Copy4M6
  | 236 => .fixed .add2Copy4M6
  | 237 => .fixed .add3Copy4M6
  | 238 => .fixed .add4Copy4M6
  | 239 => .fixed .add1Copy4M7
  | 240 => .fixed .add2Copy4M7
  | 241 => .fixed .add3Copy4M7
  | 242 => .fixed .add4Copy4M7
  | 243 => .fixed .add1Copy4M8
  | 244 => .fixed .add2Copy4M8
  | 245 => .fixed .add3Copy4M8
  | 246 => .fixed .add4Copy4M8
  | 247 => .fixed .copy4M0Add1
  | 248 => .fixed .copy4M1Add1
  | 249 => .fixed .copy4M2Add1
  | 250 => .fixed .copy4M3Add1
  | 251 => .fixed .copy4M4Add1
  | 252 => .fixed .copy4M5Add1
  | 253 => .fixed .copy4M6Add1
  | 254 => .fixed .copy4M7Add1
  | 255 => .fixed .copy4M8Add1
  | _ => .undefined

/-- R80, R96: the opcode byte of an instruction, as the row's `match` gives it. -/
def Instr.opcode : Instr → Nat
  | .runV _ => 0
  | .addV _ => 1
  | .add1 => 2
  | .add2 => 3
  | .add3 => 4
  | .add4 => 5
  | .add5 => 6
  | .add6 => 7
  | .add7 => 8
  | .add8 => 9
  | .add9 => 10
  | .add10 => 11
  | .add11 => 12
  | .add12 => 13
  | .add13 => 14
  | .add14 => 15
  | .add15 => 16
  | .add16 => 17
  | .add17 => 18
  | .copyVM0 _ => 19
  | .copy4M0 => 20
  | .copy5M0 => 21
  | .copy6M0 => 22
  | .copy7M0 => 23
  | .copy8M0 => 24
  | .copy9M0 => 25
  | .copy10M0 => 26
  | .copy11M0 => 27
  | .copy12M0 => 28
  | .copy13M0 => 29
  | .copy14M0 => 30
  | .copy15M0 => 31
  | .copy16M0 => 32
  | .copy17M0 => 33
  | .copy18M0 => 34
  | .copyVM1 _ => 35
  | .copy4M1 => 36
  | .copy5M1 => 37
  | .copy6M1 => 38
  | .copy7M1 => 39
  | .copy8M1 => 40
  | .copy9M1 => 41
  | .copy10M1 => 42
  | .copy11M1 => 43
  | .copy12M1 => 44
  | .copy13M1 => 45
  | .copy14M1 => 46
  | .copy15M1 => 47
  | .copy16M1 => 48
  | .copy17M1 => 49
  | .copy18M1 => 50
  | .copyVM2 _ => 51
  | .copy4M2 => 52
  | .copy5M2 => 53
  | .copy6M2 => 54
  | .copy7M2 => 55
  | .copy8M2 => 56
  | .copy9M2 => 57
  | .copy10M2 => 58
  | .copy11M2 => 59
  | .copy12M2 => 60
  | .copy13M2 => 61
  | .copy14M2 => 62
  | .copy15M2 => 63
  | .copy16M2 => 64
  | .copy17M2 => 65
  | .copy18M2 => 66
  | .copyVM3 _ => 67
  | .copy4M3 => 68
  | .copy5M3 => 69
  | .copy6M3 => 70
  | .copy7M3 => 71
  | .copy8M3 => 72
  | .copy9M3 => 73
  | .copy10M3 => 74
  | .copy11M3 => 75
  | .copy12M3 => 76
  | .copy13M3 => 77
  | .copy14M3 => 78
  | .copy15M3 => 79
  | .copy16M3 => 80
  | .copy17M3 => 81
  | .copy18M3 => 82
  | .copyVM4 _ => 83
  | .copy4M4 => 84
  | .copy5M4 => 85
  | .copy6M4 => 86
  | .copy7M4 => 87
  | .copy8M4 => 88
  | .copy9M4 => 89
  | .copy10M4 => 90
  | .copy11M4 => 91
  | .copy12M4 => 92
  | .copy13M4 => 93
  | .copy14M4 => 94
  | .copy15M4 => 95
  | .copy16M4 => 96
  | .copy17M4 => 97
  | .copy18M4 => 98
  | .copyVM5 _ => 99
  | .copy4M5 => 100
  | .copy5M5 => 101
  | .copy6M5 => 102
  | .copy7M5 => 103
  | .copy8M5 => 104
  | .copy9M5 => 105
  | .copy10M5 => 106
  | .copy11M5 => 107
  | .copy12M5 => 108
  | .copy13M5 => 109
  | .copy14M5 => 110
  | .copy15M5 => 111
  | .copy16M5 => 112
  | .copy17M5 => 113
  | .copy18M5 => 114
  | .copyVM6 _ => 115
  | .copy4M6 => 116
  | .copy5M6 => 117
  | .copy6M6 => 118
  | .copy7M6 => 119
  | .copy8M6 => 120
  | .copy9M6 => 121
  | .copy10M6 => 122
  | .copy11M6 => 123
  | .copy12M6 => 124
  | .copy13M6 => 125
  | .copy14M6 => 126
  | .copy15M6 => 127
  | .copy16M6 => 128
  | .copy17M6 => 129
  | .copy18M6 => 130
  | .copyVM7 _ => 131
  | .copy4M7 => 132
  | .copy5M7 => 133
  | .copy6M7 => 134
  | .copy7M7 => 135
  | .copy8M7 => 136
  | .copy9M7 => 137
  | .copy10M7 => 138
  | .copy11M7 => 139
  | .copy12M7 => 140
  | .copy13M7 => 141
  | .copy14M7 => 142
  | .copy15M7 => 143
  | .copy16M7 => 144
  | .copy17M7 => 145
  | .copy18M7 => 146
  | .copyVM8 _ => 147
  | .copy4M8 => 148
  | .copy5M8 => 149
  | .copy6M8 => 150
  | .copy7M8 => 151
  | .copy8M8 => 152
  | .copy9M8 => 153
  | .copy10M8 => 154
  | .copy11M8 => 155
  | .copy12M8 => 156
  | .copy13M8 => 157
  | .copy14M8 => 158
  | .copy15M8 => 159
  | .copy16M8 => 160
  | .copy17M8 => 161
  | .copy18M8 => 162
  | .add1Copy4M0 => 163
  | .add1Copy5M0 => 164
  | .add1Copy6M0 => 165
  | .add2Copy4M0 => 166
  | .add2Copy5M0 => 167
  | .add2Copy6M0 => 168
  | .add3Copy4M0 => 169
  | .add3Copy5M0 => 170
  | .add3Copy6M0 => 171
  | .add4Copy4M0 => 172
  | .add4Copy5M0 => 173
  | .add4Copy6M0 => 174
  | .add1Copy4M1 => 175
  | .add1Copy5M1 => 176
  | .add1Copy6M1 => 177
  | .add2Copy4M1 => 178
  | .add2Copy5M1 => 179
  | .add2Copy6M1 => 180
  | .add3Copy4M1 => 181
  | .add3Copy5M1 => 182
  | .add3Copy6M1 => 183
  | .add4Copy4M1 => 184
  | .add4Copy5M1 => 185
  | .add4Copy6M1 => 186
  | .add1Copy4M2 => 187
  | .add1Copy5M2 => 188
  | .add1Copy6M2 => 189
  | .add2Copy4M2 => 190
  | .add2Copy5M2 => 191
  | .add2Copy6M2 => 192
  | .add3Copy4M2 => 193
  | .add3Copy5M2 => 194
  | .add3Copy6M2 => 195
  | .add4Copy4M2 => 196
  | .add4Copy5M2 => 197
  | .add4Copy6M2 => 198
  | .add1Copy4M3 => 199
  | .add1Copy5M3 => 200
  | .add1Copy6M3 => 201
  | .add2Copy4M3 => 202
  | .add2Copy5M3 => 203
  | .add2Copy6M3 => 204
  | .add3Copy4M3 => 205
  | .add3Copy5M3 => 206
  | .add3Copy6M3 => 207
  | .add4Copy4M3 => 208
  | .add4Copy5M3 => 209
  | .add4Copy6M3 => 210
  | .add1Copy4M4 => 211
  | .add1Copy5M4 => 212
  | .add1Copy6M4 => 213
  | .add2Copy4M4 => 214
  | .add2Copy5M4 => 215
  | .add2Copy6M4 => 216
  | .add3Copy4M4 => 217
  | .add3Copy5M4 => 218
  | .add3Copy6M4 => 219
  | .add4Copy4M4 => 220
  | .add4Copy5M4 => 221
  | .add4Copy6M4 => 222
  | .add1Copy4M5 => 223
  | .add1Copy5M5 => 224
  | .add1Copy6M5 => 225
  | .add2Copy4M5 => 226
  | .add2Copy5M5 => 227
  | .add2Copy6M5 => 228
  | .add3Copy4M5 => 229
  | .add3Copy5M5 => 230
  | .add3Copy6M5 => 231
  | .add4Copy4M5 => 232
  | .add4Copy5M5 => 233
  | .add4Copy6M5 => 234
  | .add1Copy4M6 => 235
  | .add2Copy4M6 => 236
  | .add3Copy4M6 => 237
  | .add4Copy4M6 => 238
  | .add1Copy4M7 => 239
  | .add2Copy4M7 => 240
  | .add3Copy4M7 => 241
  | .add4Copy4M7 => 242
  | .add1Copy4M8 => 243
  | .add2Copy4M8 => 244
  | .add3Copy4M8 => 245
  | .add4Copy4M8 => 246
  | .copy4M0Add1 => 247
  | .copy4M1Add1 => 248
  | .copy4M2Add1 => 249
  | .copy4M3Add1 => 250
  | .copy4M4Add1 => 251
  | .copy4M5Add1 => 252
  | .copy4M6Add1 => 253
  | .copy4M7Add1 => 254
  | .copy4M8Add1 => 255

/-- R80, R96: the first triple of an instruction, with its explicit size in place of the table size 0. -/
def Instr.first : Instr → Triple
  | .runV size => ⟨.run, size, 0⟩
  | .addV size => ⟨.add, size, 0⟩
  | .add1 => ⟨.add, 1, 0⟩
  | .add2 => ⟨.add, 2, 0⟩
  | .add3 => ⟨.add, 3, 0⟩
  | .add4 => ⟨.add, 4, 0⟩
  | .add5 => ⟨.add, 5, 0⟩
  | .add6 => ⟨.add, 6, 0⟩
  | .add7 => ⟨.add, 7, 0⟩
  | .add8 => ⟨.add, 8, 0⟩
  | .add9 => ⟨.add, 9, 0⟩
  | .add10 => ⟨.add, 10, 0⟩
  | .add11 => ⟨.add, 11, 0⟩
  | .add12 => ⟨.add, 12, 0⟩
  | .add13 => ⟨.add, 13, 0⟩
  | .add14 => ⟨.add, 14, 0⟩
  | .add15 => ⟨.add, 15, 0⟩
  | .add16 => ⟨.add, 16, 0⟩
  | .add17 => ⟨.add, 17, 0⟩
  | .copyVM0 size => ⟨.copy, size, 0⟩
  | .copy4M0 => ⟨.copy, 4, 0⟩
  | .copy5M0 => ⟨.copy, 5, 0⟩
  | .copy6M0 => ⟨.copy, 6, 0⟩
  | .copy7M0 => ⟨.copy, 7, 0⟩
  | .copy8M0 => ⟨.copy, 8, 0⟩
  | .copy9M0 => ⟨.copy, 9, 0⟩
  | .copy10M0 => ⟨.copy, 10, 0⟩
  | .copy11M0 => ⟨.copy, 11, 0⟩
  | .copy12M0 => ⟨.copy, 12, 0⟩
  | .copy13M0 => ⟨.copy, 13, 0⟩
  | .copy14M0 => ⟨.copy, 14, 0⟩
  | .copy15M0 => ⟨.copy, 15, 0⟩
  | .copy16M0 => ⟨.copy, 16, 0⟩
  | .copy17M0 => ⟨.copy, 17, 0⟩
  | .copy18M0 => ⟨.copy, 18, 0⟩
  | .copyVM1 size => ⟨.copy, size, 1⟩
  | .copy4M1 => ⟨.copy, 4, 1⟩
  | .copy5M1 => ⟨.copy, 5, 1⟩
  | .copy6M1 => ⟨.copy, 6, 1⟩
  | .copy7M1 => ⟨.copy, 7, 1⟩
  | .copy8M1 => ⟨.copy, 8, 1⟩
  | .copy9M1 => ⟨.copy, 9, 1⟩
  | .copy10M1 => ⟨.copy, 10, 1⟩
  | .copy11M1 => ⟨.copy, 11, 1⟩
  | .copy12M1 => ⟨.copy, 12, 1⟩
  | .copy13M1 => ⟨.copy, 13, 1⟩
  | .copy14M1 => ⟨.copy, 14, 1⟩
  | .copy15M1 => ⟨.copy, 15, 1⟩
  | .copy16M1 => ⟨.copy, 16, 1⟩
  | .copy17M1 => ⟨.copy, 17, 1⟩
  | .copy18M1 => ⟨.copy, 18, 1⟩
  | .copyVM2 size => ⟨.copy, size, 2⟩
  | .copy4M2 => ⟨.copy, 4, 2⟩
  | .copy5M2 => ⟨.copy, 5, 2⟩
  | .copy6M2 => ⟨.copy, 6, 2⟩
  | .copy7M2 => ⟨.copy, 7, 2⟩
  | .copy8M2 => ⟨.copy, 8, 2⟩
  | .copy9M2 => ⟨.copy, 9, 2⟩
  | .copy10M2 => ⟨.copy, 10, 2⟩
  | .copy11M2 => ⟨.copy, 11, 2⟩
  | .copy12M2 => ⟨.copy, 12, 2⟩
  | .copy13M2 => ⟨.copy, 13, 2⟩
  | .copy14M2 => ⟨.copy, 14, 2⟩
  | .copy15M2 => ⟨.copy, 15, 2⟩
  | .copy16M2 => ⟨.copy, 16, 2⟩
  | .copy17M2 => ⟨.copy, 17, 2⟩
  | .copy18M2 => ⟨.copy, 18, 2⟩
  | .copyVM3 size => ⟨.copy, size, 3⟩
  | .copy4M3 => ⟨.copy, 4, 3⟩
  | .copy5M3 => ⟨.copy, 5, 3⟩
  | .copy6M3 => ⟨.copy, 6, 3⟩
  | .copy7M3 => ⟨.copy, 7, 3⟩
  | .copy8M3 => ⟨.copy, 8, 3⟩
  | .copy9M3 => ⟨.copy, 9, 3⟩
  | .copy10M3 => ⟨.copy, 10, 3⟩
  | .copy11M3 => ⟨.copy, 11, 3⟩
  | .copy12M3 => ⟨.copy, 12, 3⟩
  | .copy13M3 => ⟨.copy, 13, 3⟩
  | .copy14M3 => ⟨.copy, 14, 3⟩
  | .copy15M3 => ⟨.copy, 15, 3⟩
  | .copy16M3 => ⟨.copy, 16, 3⟩
  | .copy17M3 => ⟨.copy, 17, 3⟩
  | .copy18M3 => ⟨.copy, 18, 3⟩
  | .copyVM4 size => ⟨.copy, size, 4⟩
  | .copy4M4 => ⟨.copy, 4, 4⟩
  | .copy5M4 => ⟨.copy, 5, 4⟩
  | .copy6M4 => ⟨.copy, 6, 4⟩
  | .copy7M4 => ⟨.copy, 7, 4⟩
  | .copy8M4 => ⟨.copy, 8, 4⟩
  | .copy9M4 => ⟨.copy, 9, 4⟩
  | .copy10M4 => ⟨.copy, 10, 4⟩
  | .copy11M4 => ⟨.copy, 11, 4⟩
  | .copy12M4 => ⟨.copy, 12, 4⟩
  | .copy13M4 => ⟨.copy, 13, 4⟩
  | .copy14M4 => ⟨.copy, 14, 4⟩
  | .copy15M4 => ⟨.copy, 15, 4⟩
  | .copy16M4 => ⟨.copy, 16, 4⟩
  | .copy17M4 => ⟨.copy, 17, 4⟩
  | .copy18M4 => ⟨.copy, 18, 4⟩
  | .copyVM5 size => ⟨.copy, size, 5⟩
  | .copy4M5 => ⟨.copy, 4, 5⟩
  | .copy5M5 => ⟨.copy, 5, 5⟩
  | .copy6M5 => ⟨.copy, 6, 5⟩
  | .copy7M5 => ⟨.copy, 7, 5⟩
  | .copy8M5 => ⟨.copy, 8, 5⟩
  | .copy9M5 => ⟨.copy, 9, 5⟩
  | .copy10M5 => ⟨.copy, 10, 5⟩
  | .copy11M5 => ⟨.copy, 11, 5⟩
  | .copy12M5 => ⟨.copy, 12, 5⟩
  | .copy13M5 => ⟨.copy, 13, 5⟩
  | .copy14M5 => ⟨.copy, 14, 5⟩
  | .copy15M5 => ⟨.copy, 15, 5⟩
  | .copy16M5 => ⟨.copy, 16, 5⟩
  | .copy17M5 => ⟨.copy, 17, 5⟩
  | .copy18M5 => ⟨.copy, 18, 5⟩
  | .copyVM6 size => ⟨.copy, size, 6⟩
  | .copy4M6 => ⟨.copy, 4, 6⟩
  | .copy5M6 => ⟨.copy, 5, 6⟩
  | .copy6M6 => ⟨.copy, 6, 6⟩
  | .copy7M6 => ⟨.copy, 7, 6⟩
  | .copy8M6 => ⟨.copy, 8, 6⟩
  | .copy9M6 => ⟨.copy, 9, 6⟩
  | .copy10M6 => ⟨.copy, 10, 6⟩
  | .copy11M6 => ⟨.copy, 11, 6⟩
  | .copy12M6 => ⟨.copy, 12, 6⟩
  | .copy13M6 => ⟨.copy, 13, 6⟩
  | .copy14M6 => ⟨.copy, 14, 6⟩
  | .copy15M6 => ⟨.copy, 15, 6⟩
  | .copy16M6 => ⟨.copy, 16, 6⟩
  | .copy17M6 => ⟨.copy, 17, 6⟩
  | .copy18M6 => ⟨.copy, 18, 6⟩
  | .copyVM7 size => ⟨.copy, size, 7⟩
  | .copy4M7 => ⟨.copy, 4, 7⟩
  | .copy5M7 => ⟨.copy, 5, 7⟩
  | .copy6M7 => ⟨.copy, 6, 7⟩
  | .copy7M7 => ⟨.copy, 7, 7⟩
  | .copy8M7 => ⟨.copy, 8, 7⟩
  | .copy9M7 => ⟨.copy, 9, 7⟩
  | .copy10M7 => ⟨.copy, 10, 7⟩
  | .copy11M7 => ⟨.copy, 11, 7⟩
  | .copy12M7 => ⟨.copy, 12, 7⟩
  | .copy13M7 => ⟨.copy, 13, 7⟩
  | .copy14M7 => ⟨.copy, 14, 7⟩
  | .copy15M7 => ⟨.copy, 15, 7⟩
  | .copy16M7 => ⟨.copy, 16, 7⟩
  | .copy17M7 => ⟨.copy, 17, 7⟩
  | .copy18M7 => ⟨.copy, 18, 7⟩
  | .copyVM8 size => ⟨.copy, size, 8⟩
  | .copy4M8 => ⟨.copy, 4, 8⟩
  | .copy5M8 => ⟨.copy, 5, 8⟩
  | .copy6M8 => ⟨.copy, 6, 8⟩
  | .copy7M8 => ⟨.copy, 7, 8⟩
  | .copy8M8 => ⟨.copy, 8, 8⟩
  | .copy9M8 => ⟨.copy, 9, 8⟩
  | .copy10M8 => ⟨.copy, 10, 8⟩
  | .copy11M8 => ⟨.copy, 11, 8⟩
  | .copy12M8 => ⟨.copy, 12, 8⟩
  | .copy13M8 => ⟨.copy, 13, 8⟩
  | .copy14M8 => ⟨.copy, 14, 8⟩
  | .copy15M8 => ⟨.copy, 15, 8⟩
  | .copy16M8 => ⟨.copy, 16, 8⟩
  | .copy17M8 => ⟨.copy, 17, 8⟩
  | .copy18M8 => ⟨.copy, 18, 8⟩
  | .add1Copy4M0 => ⟨.add, 1, 0⟩
  | .add1Copy5M0 => ⟨.add, 1, 0⟩
  | .add1Copy6M0 => ⟨.add, 1, 0⟩
  | .add2Copy4M0 => ⟨.add, 2, 0⟩
  | .add2Copy5M0 => ⟨.add, 2, 0⟩
  | .add2Copy6M0 => ⟨.add, 2, 0⟩
  | .add3Copy4M0 => ⟨.add, 3, 0⟩
  | .add3Copy5M0 => ⟨.add, 3, 0⟩
  | .add3Copy6M0 => ⟨.add, 3, 0⟩
  | .add4Copy4M0 => ⟨.add, 4, 0⟩
  | .add4Copy5M0 => ⟨.add, 4, 0⟩
  | .add4Copy6M0 => ⟨.add, 4, 0⟩
  | .add1Copy4M1 => ⟨.add, 1, 0⟩
  | .add1Copy5M1 => ⟨.add, 1, 0⟩
  | .add1Copy6M1 => ⟨.add, 1, 0⟩
  | .add2Copy4M1 => ⟨.add, 2, 0⟩
  | .add2Copy5M1 => ⟨.add, 2, 0⟩
  | .add2Copy6M1 => ⟨.add, 2, 0⟩
  | .add3Copy4M1 => ⟨.add, 3, 0⟩
  | .add3Copy5M1 => ⟨.add, 3, 0⟩
  | .add3Copy6M1 => ⟨.add, 3, 0⟩
  | .add4Copy4M1 => ⟨.add, 4, 0⟩
  | .add4Copy5M1 => ⟨.add, 4, 0⟩
  | .add4Copy6M1 => ⟨.add, 4, 0⟩
  | .add1Copy4M2 => ⟨.add, 1, 0⟩
  | .add1Copy5M2 => ⟨.add, 1, 0⟩
  | .add1Copy6M2 => ⟨.add, 1, 0⟩
  | .add2Copy4M2 => ⟨.add, 2, 0⟩
  | .add2Copy5M2 => ⟨.add, 2, 0⟩
  | .add2Copy6M2 => ⟨.add, 2, 0⟩
  | .add3Copy4M2 => ⟨.add, 3, 0⟩
  | .add3Copy5M2 => ⟨.add, 3, 0⟩
  | .add3Copy6M2 => ⟨.add, 3, 0⟩
  | .add4Copy4M2 => ⟨.add, 4, 0⟩
  | .add4Copy5M2 => ⟨.add, 4, 0⟩
  | .add4Copy6M2 => ⟨.add, 4, 0⟩
  | .add1Copy4M3 => ⟨.add, 1, 0⟩
  | .add1Copy5M3 => ⟨.add, 1, 0⟩
  | .add1Copy6M3 => ⟨.add, 1, 0⟩
  | .add2Copy4M3 => ⟨.add, 2, 0⟩
  | .add2Copy5M3 => ⟨.add, 2, 0⟩
  | .add2Copy6M3 => ⟨.add, 2, 0⟩
  | .add3Copy4M3 => ⟨.add, 3, 0⟩
  | .add3Copy5M3 => ⟨.add, 3, 0⟩
  | .add3Copy6M3 => ⟨.add, 3, 0⟩
  | .add4Copy4M3 => ⟨.add, 4, 0⟩
  | .add4Copy5M3 => ⟨.add, 4, 0⟩
  | .add4Copy6M3 => ⟨.add, 4, 0⟩
  | .add1Copy4M4 => ⟨.add, 1, 0⟩
  | .add1Copy5M4 => ⟨.add, 1, 0⟩
  | .add1Copy6M4 => ⟨.add, 1, 0⟩
  | .add2Copy4M4 => ⟨.add, 2, 0⟩
  | .add2Copy5M4 => ⟨.add, 2, 0⟩
  | .add2Copy6M4 => ⟨.add, 2, 0⟩
  | .add3Copy4M4 => ⟨.add, 3, 0⟩
  | .add3Copy5M4 => ⟨.add, 3, 0⟩
  | .add3Copy6M4 => ⟨.add, 3, 0⟩
  | .add4Copy4M4 => ⟨.add, 4, 0⟩
  | .add4Copy5M4 => ⟨.add, 4, 0⟩
  | .add4Copy6M4 => ⟨.add, 4, 0⟩
  | .add1Copy4M5 => ⟨.add, 1, 0⟩
  | .add1Copy5M5 => ⟨.add, 1, 0⟩
  | .add1Copy6M5 => ⟨.add, 1, 0⟩
  | .add2Copy4M5 => ⟨.add, 2, 0⟩
  | .add2Copy5M5 => ⟨.add, 2, 0⟩
  | .add2Copy6M5 => ⟨.add, 2, 0⟩
  | .add3Copy4M5 => ⟨.add, 3, 0⟩
  | .add3Copy5M5 => ⟨.add, 3, 0⟩
  | .add3Copy6M5 => ⟨.add, 3, 0⟩
  | .add4Copy4M5 => ⟨.add, 4, 0⟩
  | .add4Copy5M5 => ⟨.add, 4, 0⟩
  | .add4Copy6M5 => ⟨.add, 4, 0⟩
  | .add1Copy4M6 => ⟨.add, 1, 0⟩
  | .add2Copy4M6 => ⟨.add, 2, 0⟩
  | .add3Copy4M6 => ⟨.add, 3, 0⟩
  | .add4Copy4M6 => ⟨.add, 4, 0⟩
  | .add1Copy4M7 => ⟨.add, 1, 0⟩
  | .add2Copy4M7 => ⟨.add, 2, 0⟩
  | .add3Copy4M7 => ⟨.add, 3, 0⟩
  | .add4Copy4M7 => ⟨.add, 4, 0⟩
  | .add1Copy4M8 => ⟨.add, 1, 0⟩
  | .add2Copy4M8 => ⟨.add, 2, 0⟩
  | .add3Copy4M8 => ⟨.add, 3, 0⟩
  | .add4Copy4M8 => ⟨.add, 4, 0⟩
  | .copy4M0Add1 => ⟨.copy, 4, 0⟩
  | .copy4M1Add1 => ⟨.copy, 4, 1⟩
  | .copy4M2Add1 => ⟨.copy, 4, 2⟩
  | .copy4M3Add1 => ⟨.copy, 4, 3⟩
  | .copy4M4Add1 => ⟨.copy, 4, 4⟩
  | .copy4M5Add1 => ⟨.copy, 4, 5⟩
  | .copy4M6Add1 => ⟨.copy, 4, 6⟩
  | .copy4M7Add1 => ⟨.copy, 4, 7⟩
  | .copy4M8Add1 => ⟨.copy, 4, 8⟩

/-- R80, R96: the second triple of a compound opcode. -/
def Instr.second : Instr → Option Triple
  | .runV _ => none
  | .addV _ => none
  | .add1 => none
  | .add2 => none
  | .add3 => none
  | .add4 => none
  | .add5 => none
  | .add6 => none
  | .add7 => none
  | .add8 => none
  | .add9 => none
  | .add10 => none
  | .add11 => none
  | .add12 => none
  | .add13 => none
  | .add14 => none
  | .add15 => none
  | .add16 => none
  | .add17 => none
  | .copyVM0 _ => none
  | .copy4M0 => none
  | .copy5M0 => none
  | .copy6M0 => none
  | .copy7M0 => none
  | .copy8M0 => none
  | .copy9M0 => none
  | .copy10M0 => none
  | .copy11M0 => none
  | .copy12M0 => none
  | .copy13M0 => none
  | .copy14M0 => none
  | .copy15M0 => none
  | .copy16M0 => none
  | .copy17M0 => none
  | .copy18M0 => none
  | .copyVM1 _ => none
  | .copy4M1 => none
  | .copy5M1 => none
  | .copy6M1 => none
  | .copy7M1 => none
  | .copy8M1 => none
  | .copy9M1 => none
  | .copy10M1 => none
  | .copy11M1 => none
  | .copy12M1 => none
  | .copy13M1 => none
  | .copy14M1 => none
  | .copy15M1 => none
  | .copy16M1 => none
  | .copy17M1 => none
  | .copy18M1 => none
  | .copyVM2 _ => none
  | .copy4M2 => none
  | .copy5M2 => none
  | .copy6M2 => none
  | .copy7M2 => none
  | .copy8M2 => none
  | .copy9M2 => none
  | .copy10M2 => none
  | .copy11M2 => none
  | .copy12M2 => none
  | .copy13M2 => none
  | .copy14M2 => none
  | .copy15M2 => none
  | .copy16M2 => none
  | .copy17M2 => none
  | .copy18M2 => none
  | .copyVM3 _ => none
  | .copy4M3 => none
  | .copy5M3 => none
  | .copy6M3 => none
  | .copy7M3 => none
  | .copy8M3 => none
  | .copy9M3 => none
  | .copy10M3 => none
  | .copy11M3 => none
  | .copy12M3 => none
  | .copy13M3 => none
  | .copy14M3 => none
  | .copy15M3 => none
  | .copy16M3 => none
  | .copy17M3 => none
  | .copy18M3 => none
  | .copyVM4 _ => none
  | .copy4M4 => none
  | .copy5M4 => none
  | .copy6M4 => none
  | .copy7M4 => none
  | .copy8M4 => none
  | .copy9M4 => none
  | .copy10M4 => none
  | .copy11M4 => none
  | .copy12M4 => none
  | .copy13M4 => none
  | .copy14M4 => none
  | .copy15M4 => none
  | .copy16M4 => none
  | .copy17M4 => none
  | .copy18M4 => none
  | .copyVM5 _ => none
  | .copy4M5 => none
  | .copy5M5 => none
  | .copy6M5 => none
  | .copy7M5 => none
  | .copy8M5 => none
  | .copy9M5 => none
  | .copy10M5 => none
  | .copy11M5 => none
  | .copy12M5 => none
  | .copy13M5 => none
  | .copy14M5 => none
  | .copy15M5 => none
  | .copy16M5 => none
  | .copy17M5 => none
  | .copy18M5 => none
  | .copyVM6 _ => none
  | .copy4M6 => none
  | .copy5M6 => none
  | .copy6M6 => none
  | .copy7M6 => none
  | .copy8M6 => none
  | .copy9M6 => none
  | .copy10M6 => none
  | .copy11M6 => none
  | .copy12M6 => none
  | .copy13M6 => none
  | .copy14M6 => none
  | .copy15M6 => none
  | .copy16M6 => none
  | .copy17M6 => none
  | .copy18M6 => none
  | .copyVM7 _ => none
  | .copy4M7 => none
  | .copy5M7 => none
  | .copy6M7 => none
  | .copy7M7 => none
  | .copy8M7 => none
  | .copy9M7 => none
  | .copy10M7 => none
  | .copy11M7 => none
  | .copy12M7 => none
  | .copy13M7 => none
  | .copy14M7 => none
  | .copy15M7 => none
  | .copy16M7 => none
  | .copy17M7 => none
  | .copy18M7 => none
  | .copyVM8 _ => none
  | .copy4M8 => none
  | .copy5M8 => none
  | .copy6M8 => none
  | .copy7M8 => none
  | .copy8M8 => none
  | .copy9M8 => none
  | .copy10M8 => none
  | .copy11M8 => none
  | .copy12M8 => none
  | .copy13M8 => none
  | .copy14M8 => none
  | .copy15M8 => none
  | .copy16M8 => none
  | .copy17M8 => none
  | .copy18M8 => none
  | .add1Copy4M0 => some ⟨.copy, 4, 0⟩
  | .add1Copy5M0 => some ⟨.copy, 5, 0⟩
  | .add1Copy6M0 => some ⟨.copy, 6, 0⟩
  | .add2Copy4M0 => some ⟨.copy, 4, 0⟩
  | .add2Copy5M0 => some ⟨.copy, 5, 0⟩
  | .add2Copy6M0 => some ⟨.copy, 6, 0⟩
  | .add3Copy4M0 => some ⟨.copy, 4, 0⟩
  | .add3Copy5M0 => some ⟨.copy, 5, 0⟩
  | .add3Copy6M0 => some ⟨.copy, 6, 0⟩
  | .add4Copy4M0 => some ⟨.copy, 4, 0⟩
  | .add4Copy5M0 => some ⟨.copy, 5, 0⟩
  | .add4Copy6M0 => some ⟨.copy, 6, 0⟩
  | .add1Copy4M1 => some ⟨.copy, 4, 1⟩
  | .add1Copy5M1 => some ⟨.copy, 5, 1⟩
  | .add1Copy6M1 => some ⟨.copy, 6, 1⟩
  | .add2Copy4M1 => some ⟨.copy, 4, 1⟩
  | .add2Copy5M1 => some ⟨.copy, 5, 1⟩
  | .add2Copy6M1 => some ⟨.copy, 6, 1⟩
  | .add3Copy4M1 => some ⟨.copy, 4, 1⟩
  | .add3Copy5M1 => some ⟨.copy, 5, 1⟩
  | .add3Copy6M1 => some ⟨.copy, 6, 1⟩
  | .add4Copy4M1 => some ⟨.copy, 4, 1⟩
  | .add4Copy5M1 => some ⟨.copy, 5, 1⟩
  | .add4Copy6M1 => some ⟨.copy, 6, 1⟩
  | .add1Copy4M2 => some ⟨.copy, 4, 2⟩
  | .add1Copy5M2 => some ⟨.copy, 5, 2⟩
  | .add1Copy6M2 => some ⟨.copy, 6, 2⟩
  | .add2Copy4M2 => some ⟨.copy, 4, 2⟩
  | .add2Copy5M2 => some ⟨.copy, 5, 2⟩
  | .add2Copy6M2 => some ⟨.copy, 6, 2⟩
  | .add3Copy4M2 => some ⟨.copy, 4, 2⟩
  | .add3Copy5M2 => some ⟨.copy, 5, 2⟩
  | .add3Copy6M2 => some ⟨.copy, 6, 2⟩
  | .add4Copy4M2 => some ⟨.copy, 4, 2⟩
  | .add4Copy5M2 => some ⟨.copy, 5, 2⟩
  | .add4Copy6M2 => some ⟨.copy, 6, 2⟩
  | .add1Copy4M3 => some ⟨.copy, 4, 3⟩
  | .add1Copy5M3 => some ⟨.copy, 5, 3⟩
  | .add1Copy6M3 => some ⟨.copy, 6, 3⟩
  | .add2Copy4M3 => some ⟨.copy, 4, 3⟩
  | .add2Copy5M3 => some ⟨.copy, 5, 3⟩
  | .add2Copy6M3 => some ⟨.copy, 6, 3⟩
  | .add3Copy4M3 => some ⟨.copy, 4, 3⟩
  | .add3Copy5M3 => some ⟨.copy, 5, 3⟩
  | .add3Copy6M3 => some ⟨.copy, 6, 3⟩
  | .add4Copy4M3 => some ⟨.copy, 4, 3⟩
  | .add4Copy5M3 => some ⟨.copy, 5, 3⟩
  | .add4Copy6M3 => some ⟨.copy, 6, 3⟩
  | .add1Copy4M4 => some ⟨.copy, 4, 4⟩
  | .add1Copy5M4 => some ⟨.copy, 5, 4⟩
  | .add1Copy6M4 => some ⟨.copy, 6, 4⟩
  | .add2Copy4M4 => some ⟨.copy, 4, 4⟩
  | .add2Copy5M4 => some ⟨.copy, 5, 4⟩
  | .add2Copy6M4 => some ⟨.copy, 6, 4⟩
  | .add3Copy4M4 => some ⟨.copy, 4, 4⟩
  | .add3Copy5M4 => some ⟨.copy, 5, 4⟩
  | .add3Copy6M4 => some ⟨.copy, 6, 4⟩
  | .add4Copy4M4 => some ⟨.copy, 4, 4⟩
  | .add4Copy5M4 => some ⟨.copy, 5, 4⟩
  | .add4Copy6M4 => some ⟨.copy, 6, 4⟩
  | .add1Copy4M5 => some ⟨.copy, 4, 5⟩
  | .add1Copy5M5 => some ⟨.copy, 5, 5⟩
  | .add1Copy6M5 => some ⟨.copy, 6, 5⟩
  | .add2Copy4M5 => some ⟨.copy, 4, 5⟩
  | .add2Copy5M5 => some ⟨.copy, 5, 5⟩
  | .add2Copy6M5 => some ⟨.copy, 6, 5⟩
  | .add3Copy4M5 => some ⟨.copy, 4, 5⟩
  | .add3Copy5M5 => some ⟨.copy, 5, 5⟩
  | .add3Copy6M5 => some ⟨.copy, 6, 5⟩
  | .add4Copy4M5 => some ⟨.copy, 4, 5⟩
  | .add4Copy5M5 => some ⟨.copy, 5, 5⟩
  | .add4Copy6M5 => some ⟨.copy, 6, 5⟩
  | .add1Copy4M6 => some ⟨.copy, 4, 6⟩
  | .add2Copy4M6 => some ⟨.copy, 4, 6⟩
  | .add3Copy4M6 => some ⟨.copy, 4, 6⟩
  | .add4Copy4M6 => some ⟨.copy, 4, 6⟩
  | .add1Copy4M7 => some ⟨.copy, 4, 7⟩
  | .add2Copy4M7 => some ⟨.copy, 4, 7⟩
  | .add3Copy4M7 => some ⟨.copy, 4, 7⟩
  | .add4Copy4M7 => some ⟨.copy, 4, 7⟩
  | .add1Copy4M8 => some ⟨.copy, 4, 8⟩
  | .add2Copy4M8 => some ⟨.copy, 4, 8⟩
  | .add3Copy4M8 => some ⟨.copy, 4, 8⟩
  | .add4Copy4M8 => some ⟨.copy, 4, 8⟩
  | .copy4M0Add1 => some ⟨.add, 1, 0⟩
  | .copy4M1Add1 => some ⟨.add, 1, 0⟩
  | .copy4M2Add1 => some ⟨.add, 1, 0⟩
  | .copy4M3Add1 => some ⟨.add, 1, 0⟩
  | .copy4M4Add1 => some ⟨.add, 1, 0⟩
  | .copy4M5Add1 => some ⟨.add, 1, 0⟩
  | .copy4M6Add1 => some ⟨.add, 1, 0⟩
  | .copy4M7Add1 => some ⟨.add, 1, 0⟩
  | .copy4M8Add1 => some ⟨.add, 1, 0⟩

/-! ### Decoding and encoding one instruction -/

/-- What decoding gives: an instruction with the bytes after it, or why there is none. -/
inductive Decoded where
  /-- An instruction, with the bytes after it. -/
  | instr (i : Instr) (rest : Bytes)
  /-- The bytes end inside the instruction: `EOD` (R202). -/
  | short
  /-- The explicit size exceeds `VARINT_MAX`: `ERROR(VARINT_OVERFLOW)` (R202). -/
  | sizeOverflow
  /-- No row of the table; unreachable, since all 256 opcodes are defined (R91). -/
  | undefinedOpcode
  deriving DecidableEq, Repr

/-- The instruction at the head of the instructions-and-sizes stream under the default table (R74, R75, R202). -/
def decode : Bytes → Decoded
  | [] => .short
  | op :: bs =>
    match opcodeForm op.toNat with
    | .fixed i => .instr i bs
    | .sized f =>
      match varintDecode Machine.varintMax bs with
      | .ok size rest => .instr (f size) rest
      | .eod => .short
      | .overflow => .sizeOverflow
    | .undefined => .undefinedOpcode

/-- The bytes of an instruction: the opcode byte, then its explicit size as a minimal varint (R74, R71). -/
def encode (i : Instr) : Bytes :=
  BitVec.ofNat 8 i.opcode ::
    match i.explicitSize with
    | some size => varintEncode size
    | none => []

/-- The bytes of an instruction whose bits are `w`, numbered as spec/opcode_table.json numbers them (bit 0 is the least significant of the first byte), `nbits` of them given; five zero bytes follow, the longest minimal explicit size. -/
def tableWordBytes (nbits w : Nat) : Bytes :=
  (List.range ((nbits + 7) / 8)).map (fun k => BitVec.ofNat 8 (w / 256 ^ k)) ++ [0, 0, 0, 0, 0]

/-- The instruction the decoder reads from a word of the opcode table. -/
def decodeTableWord (nbits w : Nat) : Option Instr :=
  match decode (tableWordBytes nbits w) with
  | .instr i _ => some i
  | _ => none

end Sys2Proof
end

