-- ==== Sys2Proof/Machine/AddressCache.lean ====
section
/-! DEFINITION. The address cache AC (spec/41_address_cache.md R110 to R117). -/

namespace Sys2Proof.Machine

/-- `AC_RESET` (R111): the near ring, its slot and the same table all zero. -/
def acReset (cfg : Cfg) : AddrCache :=
  AddrCache.reset cfg

/-- `AC_UPDATE(a)` (R112). -/
def AddrCache.update (cfg : Cfg) (c : AddrCache) (a : Nat) : AddrCache where
  near     := c.near.set c.nextSlot a
  nextSlot := (c.nextSlot + 1) % cfg.nearSize
  same     := c.same.set (a % (cfg.sameSize * 256)) a

/-- `(mode, value, isByte)`: how an address is written (R113). -/
structure AddrField where
  mode   : Nat
  value  : Nat
  isByte : Bool
  deriving DecidableEq, Repr

/-- R113's comparison with the near slots from slot `i` on, ascending and strict. -/
def nearBest (a : Nat) : List Nat → Nat → Nat × Nat → Nat × Nat
  | [], _, best => best
  | n :: ns, i, best => nearBest a ns (i + 1) (if n ≤ a ∧ a - n < best.2 then (2 + i, a - n) else best)

/-- R113's choice of mode and value among `SELF`, `HERE` and the near slots. -/
def AddrCache.bestMode (c : AddrCache) (a here : Nat) : Nat × Nat :=
  nearBest a c.near 0 (if here - a < a then (1, here - a) else (0, a))

/-- The field `AC_ENCODE` returns (R113): a `SAME` hit first, otherwise the smallest value. -/
def AddrCache.field (cfg : Cfg) (c : AddrCache) (a here : Nat) : AddrField :=
  let k := a % (cfg.sameSize * 256)
  if c.same.getD k 0 = a then ⟨2 + cfg.nearSize + k / 256, k % 256, true⟩
  else ⟨(c.bestMode a here).1, (c.bestMode a here).2, false⟩

/-- `AC_ENCODE(a, here)` (R113): the field and the updated cache; `none` is `ERROR(ENC_RANGE)`. -/
def AddrCache.encode (cfg : Cfg) (c : AddrCache) (a here : Nat) : Option (AddrField × AddrCache) :=
  if a < here then some (c.field cfg a here, c.update cfg a) else none

/-- The bytes of an address field (R77, R184): one raw byte for a `SAME` mode, else a varint. -/
def AddrField.bytes (f : AddrField) : Bytes :=
  if f.isByte then [BitVec.ofNat 8 f.value] else varintEncode f.value

/-- What `AC_DECODE` gives: the address, the bytes after its field and the updated cache; or why there is none. -/
inductive AddrRead where
  | ok (a : Nat) (rest : Bytes) (cache : AddrCache)
  | eod
  | err (c : Cause)
  deriving DecidableEq, Repr

/-- R114's last lines: the address must be below `here`; then the cache is updated. -/
def AddrCache.accept (cfg : Cfg) (c : AddrCache) (here a : Nat) (rest : Bytes) : AddrRead :=
  if a < here then .ok a rest (c.update cfg a) else .err .invalidAddress

/-- `AC_DECODE(mode, here, ...)` on the bytes from `pos` to `limit` (R114). -/
def AddrCache.decode (cfg : Cfg) (c : AddrCache) (mode here : Nat) (bs : Bytes) : AddrRead :=
  if 2 + cfg.nearSize + cfg.sameSize ≤ mode then .err .invalidMode
  else if 2 + cfg.nearSize ≤ mode then
    match bs with
    | [] => .eod
    | b :: rest => c.accept cfg here (c.same.getD ((mode - 2 - cfg.nearSize) * 256 + b.toNat) 0) rest
  else
    match varintDecode varintMax bs with
    | .eod => .eod
    | .overflow => .err .varintOverflow
    | .ok v rest =>
      if mode = 0 then c.accept cfg here v rest
      else if mode = 1 then
        if here < v then .err .invalidAddress else c.accept cfg here (here - v) rest
      else c.accept cfg here (c.near.getD (mode - 2) 0 + v) rest

end Sys2Proof.Machine
end

