-- ==== Sys2Proof/Machine/InstructionMap.lean ====
section
/-! DEFINITION. The instruction map IM (spec/45_code_table_and_instruction_map.md R163 to R169). -/

namespace Sys2Proof.Machine

/-- The value of a key in a partial map kept in registration order; `none` is `NONE`. -/
def mapLookup {κ : Type} [DecidableEq κ] (key : κ) : List (κ × Byte) → Option Byte
  | [] => none
  | (k, v) :: m => if k = key then some v else mapLookup key m

/-- Registration of a key: the first opcode registered is kept (R163, R164). -/
def mapRegister {κ : Type} [DecidableEq κ] (m : List (κ × Byte)) (key : κ) (op : Byte) : List (κ × Byte) :=
  match mapLookup key m with
  | some _ => m
  | none => m ++ [(key, op)]

/-- R163 for one opcode: a single instruction is registered under its triple. -/
def registerSingle (t : CodeTable) (m : List (Triple × Byte)) (op : Nat) : List (Triple × Byte) :=
  let e := t.entry (BitVec.ofNat 8 op)
  if e.firstTriple.inst ≠ .noop ∧ e.secondTriple.inst = .noop then
    mapRegister m e.firstTriple (BitVec.ofNat 8 op)
  else m

/-- R164 for one opcode: a compound opcode is registered under the single opcode of its first triple and its second triple. -/
def registerCompound (t : CodeTable) (first : List (Triple × Byte)) (m : List ((Byte × Triple) × Byte)) (op : Nat) :
    List ((Byte × Triple) × Byte) :=
  let e := t.entry (BitVec.ofNat 8 op)
  if e.firstTriple.inst ≠ .noop ∧ e.secondTriple.inst ≠ .noop then
    match mapLookup e.firstTriple first with
    | none => m
    | some f => mapRegister m (f, e.secondTriple) (BitVec.ofNat 8 op)
  else m

/-- `IM_BUILD` (R163, R164): the single opcodes, then the compound ones over the finished first map. -/
def imBuild (t : CodeTable) : InstrMap :=
  let first := (List.range 256).foldl (registerSingle t) []
  { first := first, second := (List.range 256).foldl (registerCompound t first) [], built := true }

/-- R166 step (1): the compound opcode that fuses a triple into the previous opcode, with that opcode's index. -/
def Serializer.fusion (ws : Serializer) (map : InstrMap) (t : Triple) : Option (Nat × Byte) :=
  match ws.lastOpIdx with
  | none => none
  | some i =>
    if t.size ≤ 255 then
      match ws.instBuf.read i with
      | none => none
      | some prev => (mapLookup (prev, t) map.second).map fun c => (i, c)
    else none

/-- R166 step (2): the single opcode with the size inline. -/
def InstrMap.inlineOpcode (map : InstrMap) (t : Triple) : Option Byte :=
  if t.size ≤ 255 then mapLookup t map.first else none

/-- An opcode appended to `instBuf`, with the bytes of its explicit size; it is the one the next instruction may fuse into (R166). -/
def Serializer.emit (ws : Serializer) (op : Byte) (size : Bytes) : Serializer :=
  { ws with instBuf := ws.instBuf.append (op :: size), lastOpIdx := some ws.instBuf.len }

/-- `IM_ENCODE(inst, size, mode)` (R166). `NOOP`, and `ADD` or `RUN` with a nonzero mode, are outside the operands R166 states; the pseudocode runs on them and finds no opcode (DEDUCED, log 31). -/
def imEncode (map : InstrMap) (ws : Serializer) (t : Triple) : Act Serializer Unit :=
  if t.size = 0 ∨ varintMax < t.size then .err ws .encRange
  else
    match ws.fusion map t with
    | some (i, c) => .ok { ws with instBuf := ws.instBuf.write i c, lastOpIdx := none } ()
    | none =>
      match map.inlineOpcode t with
      | some op => .ok (ws.emit op []) ()
      | none =>
        match mapLookup ⟨t.inst, 0, t.mode⟩ map.first with
        | none => .err ws .encNoOpcode
        | some op => .ok (ws.emit op (varintEncode t.size)) ()

end Sys2Proof.Machine
end

