-- ==== Sys2Proof/Machine/Serializer.lean ====
section
/-! DEFINITION. The window serializer WS (spec/46_window_serializer.md R180 to R190). -/

namespace Sys2Proof.Machine

/-- R180: append literal bytes to the buffer `D`. -/
def Serializer.appendLiteral (interleaved : Bool) (ws : Serializer) (bs : Bytes) : Serializer :=
  if interleaved then { ws with instBuf := ws.instBuf.append bs }
  else { ws with dataBuf := ws.dataBuf.append bs }

/-- R180: append an address field to the buffer `A`. -/
def Serializer.appendAddress (interleaved : Bool) (ws : Serializer) (bs : Bytes) : Serializer :=
  if interleaved then { ws with instBuf := ws.instBuf.append bs }
  else { ws with addrBuf := ws.addrBuf.append bs }

/-- The window reset of the serializer (R185's last statements; spec/70_reset_and_hazards.md R280). -/
def Serializer.windowReset (cfg : Cfg) (ws : Serializer) : Serializer :=
  { ws with
    dataBuf := [], instBuf := [], addrBuf := [], lastOpIdx := none, targetLen := 0, cache := acReset cfg }

/-- `WS_INIT(dictLen)` (R181). -/
def wsInit (cfg : Cfg) (ws : Serializer) (dictLen : Nat) : Act Serializer Unit :=
  if varintMax < dictLen then .err ws .encRange
  else .ok { ws.windowReset cfg with dictLen := dictLen, ready := true } ()

/-- `WS_ADD(bytes)` (R182). -/
def wsAdd (cfg : Cfg) (map : InstrMap) (ws : Serializer) (bs : Bytes) : Act Serializer Unit :=
  if bs.length = 0 ∨ varintMax < ws.targetLen + bs.length then .err ws .encRange
  else
    (imEncode map ws ⟨.add, bs.length, 0⟩).bind fun ws1 _ =>
      .ok { ws1.appendLiteral cfg.interleaved bs with targetLen := ws.targetLen + bs.length } ()

/-- `WS_RUN(size, byte)` (R183). -/
def wsRun (cfg : Cfg) (map : InstrMap) (ws : Serializer) (size : Nat) (byte : Byte) : Act Serializer Unit :=
  if size = 0 ∨ varintMax < ws.targetLen + size then .err ws .encRange
  else
    (imEncode map ws ⟨.run, size, 0⟩).bind fun ws1 _ =>
      .ok { ws1.appendLiteral cfg.interleaved [byte] with targetLen := ws.targetLen + size } ()

/-- `WS_COPY(offset, size)` (R184): the address is resolved before the opcode is chosen. After `ENC_NO_OPCODE` the cache is the updated one, as R184 and spec/60_exceptions.md R258 say, where spec/93_implementation_defined.md U12 allows any value (DEDUCED, log 24). A field value above `VARINT_MAX` cannot be written (R101). -/
def wsCopy (cfg : Cfg) (map : InstrMap) (ws : Serializer) (offset size : Nat) : Act Serializer Unit :=
  if size = 0 ∨ varintMax < ws.targetLen + size then .err ws .encRange
  else
    match ws.cache.encode cfg offset (ws.dictLen + ws.targetLen) with
    | none => .err ws .encRange
    | some (f, cache) =>
      (imEncode map { ws with cache := cache } ⟨.copy, size, f.mode⟩).bind fun ws1 _ =>
        if f.isByte = false ∧ varintMax < f.value then .err ws1 .encRange
        else .ok { ws1.appendAddress cfg.interleaved f.bytes with targetLen := ws.targetLen + size } ()

/-- The four raw big-endian bytes of the Xdelta3 checksum (R185; spec/20_memory.md R53). -/
def bigEndian32 (v : Nat) : Bytes :=
  [BitVec.ofNat 8 (v / 16777216), BitVec.ofNat 8 (v / 65536), BitVec.ofNat 8 (v / 256), BitVec.ofNat 8 v]

/-- The win indicator the serializer writes (R185). -/
def winIndicator (f : ChecksumFormat) : Byte :=
  match f with
  | .absent => 0x01
  | .sdch => 0x05
  | .xdelta3 => 0x05

/-- The checksum field of a window (R185; spec/30_encoding.md R90). -/
def checksumField (f : ChecksumFormat) (checksum : Nat) : Bytes :=
  match f with
  | .absent => []
  | .sdch => varintEncode checksum
  | .xdelta3 => bigEndian32 checksum

/-- R185's `deltaLen`, computed from the lengths. -/
def Serializer.deltaLen (ws : Serializer) (ck : Bytes) : Nat :=
  varintLen ws.targetLen + 1 + varintLen ws.dataBuf.len + varintLen ws.instBuf.len + varintLen ws.addrBuf.len
    + ck.length + ws.dataBuf.len + ws.instBuf.len + ws.addrBuf.len

/-- R185's `head`: fields 1 to 4. -/
def Serializer.windowHead (ws : Serializer) (f : ChecksumFormat) (ck : Bytes) : Bytes :=
  [winIndicator f] ++ varintEncode ws.dictLen ++ varintEncode 0 ++ varintEncode (ws.deltaLen ck)

/-- R185's `body`: fields 5 to 13. -/
def Serializer.windowBody (ws : Serializer) (ck : Bytes) : Bytes :=
  varintEncode ws.targetLen ++ [0x00] ++ varintEncode ws.dataBuf.len ++ varintEncode ws.instBuf.len
    ++ varintEncode ws.addrBuf.len ++ ck ++ ws.dataBuf.bytes ++ ws.instBuf.bytes ++ ws.addrBuf.bytes

/-- `WS_OUTPUT(checksum)` (R185) on the encode session: one window appended to `DELTA_OUT`, then the window reset. The section lengths are within `VARINT_MAX` when `deltaLen` is. -/
def wsOutput (e : Encoder) (checksum : Option Nat) : Act Encoder Unit :=
  let ws := e.ws
  let f := e.cfg.checksumFormat
  let ck := checksumField f (checksum.getD 0)
  if ws.targetLen = 0 then .err e .encEmptyWindow
  else if f ≠ .absent ∧ (checksum = none ∨ cksumMax < checksum.getD 0) then .err e .encRange
  else if varintMax < ws.deltaLen ck then .err e .encRange
  else if varintMax < ws.dictLen ∨ varintMax < ws.targetLen then .err e .encRange
  else if (ws.windowBody ck).length ≠ ws.deltaLen ck then .err e .encLengthAssert
  else
    .ok { e with
      deltaOut := e.deltaOut.append (ws.windowHead f ck ++ ws.windowBody ck)
      ws := ws.windowReset e.cfg } ()

/-- The version byte the serializer writes (R186). -/
def versionByte (cfg : Cfg) : Byte :=
  if cfg.interleaved ∨ cfg.checksumFormat = .sdch then 0x53 else 0x00

/-- R186: the file header appended to `DELTA_OUT`. -/
def Encoder.writeHeader (e : Encoder) : Encoder :=
  { e with deltaOut := e.deltaOut.append [0xD6, 0xC3, 0xC4, versionByte e.cfg, 0x00], headerDone := true }

/-- `WS_STREAM_HEADER` (R186): after `WS_INIT`, once per session (spec/70_reset_and_hazards.md R282, step 6; log 12). -/
def wsStreamHeader (e : Encoder) : Act Encoder Unit :=
  Act.requires (e.ws.ready && !e.headerDone) e (.ok e.writeHeader ())

end Sys2Proof.Machine
end

