-- ==== Sys2Proof/Machine/Setup.lean ====
section
/-! DEFINITION. The configuration check and the creation of sessions (spec/00_scope.md R9; spec/60_exceptions.md R252; spec/45_code_table_and_instruction_map.md R161; spec/70_reset_and_hazards.md R280). -/

namespace Sys2Proof.Machine

/-- R161 for one triple of an entry, given as its three bytes: a type code, a mode that a `COPY` can use, and mode 0 (and size 0 for `NOOP`) otherwise. -/
def tripleValid (modes : Nat) (inst size mode : Byte) : Bool :=
  match instTypeOf inst with
  | none => false
  | some .noop => mode == 0 && size == 0
  | some .add => mode == 0
  | some .run => mode == 0
  | some .copy => decide (mode.toNat < modes)

/-- R161 for one entry. -/
def entryValid (modes : Nat) (e : Entry) : Bool :=
  tripleValid modes e.inst1 e.size1 e.mode1 && tripleValid modes e.inst2 e.size2 e.mode2

/-- R161: a valid table has 256 valid entries. -/
def codeTableValid (cfg : Cfg) : Bool :=
  cfg.codeTable.rows.length == 256 && cfg.codeTable.rows.all (entryValid (2 + cfg.nearSize + cfg.sameSize))

/-- R252: the cache sizes. -/
def cacheSizesValid (cfg : Cfg) : Bool :=
  decide (1 ≤ cfg.nearSize ∧ cfg.nearSize ≤ 255 ∧ 1 ≤ cfg.sameSize ∧ cfg.sameSize ≤ 255
    ∧ 2 + cfg.nearSize + cfg.sameSize ≤ 256)

/-- The check of an encode session's configuration, in R252's order; `none` is no error. -/
def checkEncodeCfg (cfg : Cfg) : Option Cause :=
  if cfg.blockSize = 0 then some .cfgBlockSize
  else if cfg.minMatch < 2 * cfg.blockSize then some .cfgMinMatch
  else if cacheSizesValid cfg = false then some .cfgCacheSize
  else if cfg.checksumFormat = .xdelta3 ∧ cfg.interleaved = true then some .cfgXdelta3Interleaved
  else if cfg.maxMatches = 0 ∨ 32 < cfg.maxMatches ∨ cfg.bufferChunkSize = 0 ∨ cfg.hashMult = 0 then some .cfgParam
  else if codeTableValid cfg = false then some .cfgCodeTable
  else none

/-- The check of a decode session's configuration: only the parameters it has (R252). -/
def checkDecodeCfg (cfg : Cfg) : Option Cause :=
  if cacheSizesValid cfg = false then some .cfgCacheSize
  else if codeTableValid cfg = false then some .cfgCodeTable
  else none

/-- The outcome of creating a session (R252, R257): `Ok`, or `CFGERR` with the session failed. -/
def creationReply (c : Option Cause) : Reply :=
  match c with
  | none => .ok .unit
  | some c => errorReply c

/-- Session reset of the encode side (R280): a new session over a dictionary. The counter of free values goes on, so that no free value is drawn twice (log 10). -/
def State.newEncoder (s : State) (cfg : Cfg) (dict : Bytes) : State :=
  { s with
    enc := { Encoder.reset cfg (Memory.ofBytes dict) with failed := checkEncodeCfg cfg, frees := s.enc.frees }
    last := some (creationReply (checkEncodeCfg cfg)) }

/-- Session reset of the decode side (R280): a new session over a dictionary; the counter of free values goes on. -/
def State.newDecoder (s : State) (cfg : Cfg) (dict : Bytes) : State :=
  { s with
    dec := { Decoder.reset cfg (Memory.ofBytes dict) with failed := checkDecodeCfg cfg, frees := s.dec.frees }
    last := some (creationReply (checkDecodeCfg cfg)) }

end Sys2Proof.Machine
end

