-- ==== Sys2Proof/Machine/ChunkParser.lean ====
section
/-! DEFINITION. The chunk parser CP and the encode sequence (spec/44_chunk_parse.md R150 to R155). -/

namespace Sys2Proof.Machine

/-- An operation of the serializer inside an encode session. -/
def Encoder.liftWs (e : Encoder) (x : Act Serializer Unit) : Act Encoder Unit :=
  match x with
  | .ok ws a => .ok { e with ws := ws } a
  | .eod ws => .eod { e with ws := ws }
  | .err ws c => .err { e with ws := ws } c
  | .bad f => .bad f

/-- `WS_ADD` in the session. -/
def Encoder.add (e : Encoder) (bs : Bytes) : Act Encoder Unit :=
  e.liftWs (wsAdd e.cfg e.map e.ws bs)

/-- `WS_COPY` in the session. -/
def Encoder.copy (e : Encoder) (offset size : Nat) : Act Encoder Unit :=
  e.liftWs (wsCopy e.cfg e.map e.ws offset size)

/-- R151: the query at the scan position, and whether its match may be used. -/
def Encoder.usableMatch (e : Encoder) : Option Match :=
  match bhFind e.cfg e.index e.dict.bytes e.tgtIn.bytes e.parser.hash e.parser.cand e.parser.nextEncode e.tgtIn.len with
  | none => none
  | some m => if e.cfg.minMatch ≤ m.size then some m else none

/-- R151: the literals skipped before a used match become one `ADD`; none, no `ADD`. -/
def Encoder.flushLiterals (e : Encoder) (upto : Nat) : Act Encoder Unit :=
  if e.parser.nextEncode < upto then e.add (e.tgtIn.slice e.parser.nextEncode (upto - e.parser.nextEncode))
  else .ok e ()

/-- R151: the hash of the `B` target bytes at a position, from scratch. -/
def Encoder.hashAt (e : Encoder) (pos : Nat) : Nat :=
  rhHash e.cfg.hashMult (e.tgtIn.slice pos e.cfg.blockSize)

/-- R151: the byte of the chunk at a position the scan has checked to be below `T`. -/
def Encoder.targetByte (e : Encoder) (pos : Nat) : Byte :=
  e.tgtIn.bytes.getD pos 0

/-- R151's scan loop, on fuel; each pass raises `cand` (spec/70_reset_and_hazards.md R287), so `T + 1` passes suffice. -/
def Encoder.scan : Nat → Encoder → Act Encoder Unit
  | 0, _ => .bad (.noProgress "CP_PARSE")
  | fuel + 1, e =>
    match e.usableMatch with
    | some m =>
      (e.flushLiterals m.tgtOff).bind fun e1 _ =>
      (e1.copy m.srcOff m.size).bind fun e2 _ =>
        let next := m.tgtOff + m.size
        if e.tgtIn.len < next + e.cfg.blockSize then
          .ok { e2 with parser := { e2.parser with cand := next, nextEncode := next } } ()
        else
          Encoder.scan fuel { e2 with parser := { hash := e.hashAt next, cand := next, nextEncode := next } }
    | none =>
      let cand := e.parser.cand
      if e.tgtIn.len < cand + 1 + e.cfg.blockSize then .ok e ()
      else
        Encoder.scan fuel { e with parser := { e.parser with
          hash := rhRoll e.removeTable e.cfg.hashMult e.parser.hash (e.targetByte cand) (e.targetByte (cand + e.cfg.blockSize))
          cand := cand + 1 } }

/-- R151 before the final tail: the scan of a chunk that holds a whole block. -/
def Encoder.scanChunk (e : Encoder) : Act Encoder Unit :=
  let e1 := { e with parser := { e.parser with nextEncode := 0 } }
  if e.tgtIn.len < e.cfg.blockSize then .ok e1 ()
  else Encoder.scan (e.tgtIn.len + 1) { e1 with parser := { hash := e.hashAt 0, cand := 0, nextEncode := 0 } }

/-- `CP_PARSE(TGT_IN)` (R151). A chunk whose length R151 and spec/20_memory.md R50 do not allow is placed and parsed all the same (log 23, log 29). -/
def cpParse (e : Encoder) (chunk : Bytes) : Act Encoder Unit :=
  (Encoder.scanChunk { e with tgtIn := Memory.ofBytes chunk }).bind fun e1 _ => e1.flushLiterals e1.tgtIn.len

/-- What the operands of `CP_PARSE` need to have run (spec/70_reset_and_hazards.md R282). -/
def Encoder.parseReady (e : Encoder) : Bool :=
  e.hashReady && e.index.built && e.map.built && e.ws.ready

/-- R153: the checksum operand of a chunk's `WS_OUTPUT`. -/
def Encoder.chunkChecksum (e : Encoder) (chunk : Bytes) : Option Nat :=
  match e.cfg.checksumFormat with
  | .absent => none
  | .sdch => some (adler32 chunk)
  | .xdelta3 => some (adler32 chunk)

/-- R153's loop over the target's chunks, on fuel. -/
def encodeChunks : Nat → Encoder → Bytes → Act Encoder Unit
  | _, e, [] => .ok e ()
  | 0, _, _ :: _ => .bad (.noProgress "ENCODE_STREAM")
  | fuel + 1, e, target@(_ :: _) =>
    let chunk := target.take e.cfg.bufferChunkSize
    (cpParse e chunk).bind fun e1 _ =>
    (wsOutput e1 (e1.chunkChecksum chunk)).bind fun e2 _ =>
      encodeChunks fuel e2 (target.drop e.cfg.bufferChunkSize)

/-- `RH_INIT` in the session (spec/42_rolling_hash.md R126). -/
def Encoder.initHash (e : Encoder) : Encoder :=
  { e with removeTable := rhInit e.cfg.blockSize e.cfg.hashMult, hashReady := true }

/-- `BH_BUILD(DICT)` in the session (spec/43_block_hash.md R136, R137): on `CFGERR` no index exists. -/
def Encoder.buildIndex (e : Encoder) : Act Encoder Unit :=
  match bhBuild e.cfg e.dict.bytes with
  | none => .err { e with index := { e.index with built := false } } .cfgTableSize
  | some x => .ok { e with index := x } ()

/-- `IM_BUILD` in the session (spec/45_code_table_and_instruction_map.md R163, R164). -/
def Encoder.buildMap (e : Encoder) : Encoder :=
  { e with map := imBuild e.cfg.codeTable }

/-- `ENCODE_STREAM(DICT, target)` (R153) over the session's dictionary. Whether a session can encode a second stream is not stated; here its `WS_STREAM_HEADER` step is then `SEQ_ORDER`, as the order of spec/70_reset_and_hazards.md R282 says of that operation (DESIGN CHOICE, log 26). -/
def encodeStream (e : Encoder) (target : Bytes) : Act Encoder Unit :=
  match checkEncodeCfg e.cfg with
  | some c => .err e c
  | none =>
    e.initHash.buildIndex.bind fun e1 _ =>
    (e1.buildMap.liftWs (wsInit e1.cfg e1.ws e1.dict.len)).bind fun e2 _ =>
    (wsStreamHeader e2).bind fun e3 _ =>
      encodeChunks target.length e3 target

end Sys2Proof.Machine
end

