-- ==== Sys2Proof/Machine/Operands.lean ====
section
/-! DEFINITION. The operand forms of the VCDIFF instructions: where the bytes of an opcode, a literal and an address field come from (spec/49_body_decoder.md R225), and the `COPY` address space (spec/20_memory.md R51). -/

namespace Sys2Proof.Machine

/-- A buffer with the cursor and the limit it is read between (R225). -/
structure Source where
  name  : SpaceName
  space : Memory
  pos   : Nat
  lim   : Nat
  deriving DecidableEq, Repr

/-- The bytes still available: those from `pos` up to `lim`. -/
def Source.bytes (x : Source) : Bytes :=
  x.space.slice x.pos (x.lim - x.pos)

/-- The cursor once only `rest` of the available bytes is unread. -/
def Source.posAfter (x : Source) (rest : Bytes) : Nat :=
  x.pos + (x.bytes.length - rest.length)

/-- The available bytes end: `EOD`, unless the buffer itself ends before the limit, which needs a host's own `ID_INIT` and has no outcome in the spec (DESIGN CHOICE, log 9). -/
def Source.ranOut {α : Type} (x : Source) (d : Decoder) : Act Decoder α :=
  if x.bytes.length < x.lim - x.pos then .bad (.noSuchAddress x.name (x.pos + x.bytes.length)) else .eod d

/-- Literal bytes: `(L, lpos, llim)` (R225). -/
def Decoder.literals (d : Decoder) : Source :=
  match d.win.mode with
  | .standard => ⟨.secData, d.secData, d.dpos, d.win.lenData⟩
  | .interleaved => ⟨.carry, d.carry, d.ipos, d.iend⟩

/-- `lpos <- p` (R225). -/
def Decoder.setLiteralPos (d : Decoder) (p : Nat) : Decoder :=
  match d.win.mode with
  | .standard => { d with dpos := p }
  | .interleaved => { d with ipos := p }

/-- Address fields: `(Abuf, apos_, alim)` (R225). -/
def Decoder.addresses (d : Decoder) : Source :=
  match d.win.mode with
  | .standard => ⟨.secAddr, d.secAddr, d.apos, d.win.lenAddr⟩
  | .interleaved => ⟨.carry, d.carry, d.ipos, d.iend⟩

/-- `apos_ <- p` (R225). -/
def Decoder.setAddressPos (d : Decoder) (p : Nat) : Decoder :=
  match d.win.mode with
  | .standard => { d with apos := p }
  | .interleaved => { d with ipos := p }

/-- Opcodes and explicit sizes: `(ibuf, ipos, iend)` (spec/47_instruction_decoder.md R201). -/
def Decoder.instructions (d : Decoder) : Source :=
  match d.ibuf with
  | .secInst => ⟨.secInst, d.secInst, d.ipos, d.iend⟩
  | .carry => ⟨.carry, d.carry, d.ipos, d.iend⟩

/-- `here` (R230): the source segment's length plus the bytes decoded so far. -/
def Decoder.here (d : Decoder) : Nat :=
  d.win.srcSegLen + d.decoded.len

/-- The byte at an address of the `COPY` address space (R51). -/
def Decoder.copyByte (d : Decoder) (x : Nat) : Option Byte :=
  if x < d.win.srcSegLen then d.dict.read (d.win.srcSegPos + x) else d.decoded.read (x - d.win.srcSegLen)

/-- The space and index that an address of the `COPY` address space names (R51). -/
def Decoder.copyFault (d : Decoder) (x : Nat) : Fault :=
  if x < d.win.srcSegLen then .noSuchAddress .decoderDict (d.win.srcSegPos + x)
  else .noSuchAddress .decoded (x - d.win.srcSegLen)

end Sys2Proof.Machine
end

