-- ==== Sys2Proof/Machine/InstructionDecoder.lean ====
section
/-! DEFINITION. The instruction decoder ID: instruction fetch over any code table (spec/47_instruction_decoder.md R200 to R206). -/

namespace Sys2Proof.Machine

/-- `ID_INIT(buf, start, end)` (R201). -/
def Decoder.idInit (d : Decoder) (buf : InstBuf) (first last : Nat) : Decoder :=
  { d with ibuf := buf, ipos := first, iend := last, pendingSecond := none }

/-- R202's loop: the next active triple with `pendingSecond` after it and the bytes after the opcode; `none` when the bytes end first. An inactive first triple is skipped (R204). -/
def nextTriple (t : CodeTable) : Option Byte → Bytes → Option (Triple × Option Byte × Bytes)
  | some op, bs => some ((t.entry op).secondTriple, none, bs)
  | none, [] => none
  | none, op :: bs =>
    let pending := if (t.entry op).secondTriple.inst = .noop then none else some op
    if (t.entry op).firstTriple.inst ≠ .noop then some ((t.entry op).firstTriple, pending, bs)
    else
      match pending with
      | some op => some ((t.entry op).secondTriple, none, bs)
      | none => nextTriple t none bs

/-- The state after `VARINT_OVERFLOW` inside `ID_NEXT`: `ipos` and `pendingSecond` are unspecified (spec/60_exceptions.md R258): free values within their ranges (log 8). -/
def Decoder.overflowed (d : Decoder) : Decoder :=
  { d with
    ipos := min (Config.freeCursor d.frees) d.iend
    pendingSecond := Config.freePending d.frees
    frees := d.frees + 1 }

/-- `ID_NEXT` (R202): the next instruction, its explicit size read where the table size is 0; on `EOD` nothing is consumed (R203). -/
def Decoder.idNext (d : Decoder) : Act Decoder Triple :=
  match nextTriple d.cfg.codeTable d.pendingSecond d.instructions.bytes with
  | none => d.instructions.ranOut d
  | some (t, pending, bs) =>
    if t.size = 0 then
      match varintDecode varintMax bs with
      | .eod => d.instructions.ranOut d
      | .overflow => .err d.overflowed .varintOverflow
      | .ok size rest =>
        .ok { d with ipos := d.instructions.posAfter rest, pendingSecond := pending } { t with size := size }
    else .ok { d with ipos := d.instructions.posAfter bs, pendingSecond := pending } t

end Sys2Proof.Machine
end

