-- ==== Sys2Proof/Machine/Body.lean ====
section
/-! DEFINITION. The body decoder BD: the semantics of `ADD`, `RUN`, `COPY` and the compound opcodes, and the window's start and completion (spec/49_body_decoder.md R225 to R235). -/

namespace Sys2Proof.Machine

/-! ### The instructions (R228 to R230); `eod` says that the instruction must wait, nothing of it consumed -/

/-- `ADD(size)` (R228). -/
def Decoder.doAdd (d : Decoder) (size : Nat) : Act Decoder Unit :=
  if d.literals.bytes.length < size then d.literals.ranOut d
  else
    .ok (Decoder.setLiteralPos { d with decoded := d.decoded.append (d.literals.bytes.take size) } (d.literals.pos + size)) ()

/-- `RUN(size)` (R229). -/
def Decoder.doRun (d : Decoder) (size : Nat) : Act Decoder Unit :=
  match d.literals.bytes with
  | [] => d.literals.ranOut d
  | b :: _ =>
    .ok (Decoder.setLiteralPos { d with decoded := d.decoded.append (List.replicate size b) } (d.literals.pos + 1)) ()

/-- R230's loop: `n` bytes from address `x` on, one at a time in ascending order, each appended before the next is read. -/
def Decoder.copyFrom (x : Nat) : Nat → Decoder → Act Decoder Unit
  | 0, d => .ok d ()
  | n + 1, d =>
    match d.copyByte x with
    | none => .bad (d.copyFault x)
    | some b => Decoder.copyFrom (x + 1) n { d with decoded := d.decoded.append [b] }

/-- `COPY(size, mode)` (R230, R240): the cache is updated before the range test. -/
def Decoder.doCopy (d : Decoder) (size mode : Nat) : Act Decoder Unit :=
  match d.cache.decode d.cfg mode d.here d.addresses.bytes with
  | .eod => d.addresses.ranOut d
  | .err c => .err d c
  | .ok a rest cache =>
    let d1 := Decoder.setAddressPos { d with cache := cache } (d.addresses.posAfter rest)
    if d.cfg.targetCopyMode = .refuse ∧ d.win.srcSegLen < a + size then .err d1 .copyRange
    else Decoder.copyFrom a size d1

/-- `Exec(inst, size, mode)` (R227); `ID_NEXT` delivers no `NOOP`. -/
def Decoder.perform (d : Decoder) (t : Triple) : Act Decoder Unit :=
  match t.inst with
  | .noop => .ok d ()
  | .add => d.doAdd t.size
  | .run => d.doRun t.size
  | .copy => d.doCopy t.size t.mode

/-! ### One delivered instruction in its window mode (R227, R232, R235) -/

/-- R227, R235: the bytes ran out. A standard window's sections are whole, so more input cannot help; an interleaved window waits while bytes of its section are outstanding. -/
def Decoder.needMore (d : Decoder) : Act Decoder Unit :=
  match d.win.mode with
  | .standard => .err d .truncatedSection
  | .interleaved => if d.remaining = 0 then .err d .truncatedSection else .eod d

/-- R235: execute the pending instruction of an interleaved window; while it must wait it stays pending. -/
def Decoder.retry (d : Decoder) (t : Triple) : Act Decoder Unit :=
  match d.perform t with
  | .ok d1 _ => .ok { d1 with pendingInst := none } ()
  | .eod d1 => d1.needMore
  | .err d1 c => .err d1 c
  | .bad f => .bad f

/-- One instruction that has been delivered: the size check (R232), then its execution in the window's mode (R227, R235). -/
def Decoder.issue (d : Decoder) (t : Triple) : Act Decoder Unit :=
  if d.win.targetLen < d.decoded.len + t.size then .err d .instructionOverrun
  else
    match d.win.mode with
    | .standard =>
      match d.perform t with
      | .ok d1 _ => .ok d1 ()
      | .eod d1 => d1.needMore
      | .err d1 c => .err d1 c
      | .bad f => .bad f
    | .interleaved => Decoder.retry { d with pendingInst := some t } t

/-- Two halves of a compound opcode, one after the other (R231): the second is delivered only while the target length is not reached. -/
def Decoder.issuePair (d : Decoder) (op : Byte) (t u : Triple) : Act Decoder Unit :=
  (Decoder.issue { d with pendingSecond := some op } t).bind fun d1 _ =>
    if d1.outputFull then .ok d1 ()
    else Decoder.issue { d1 with pendingSecond := none } u

/-- An instruction runs only in a session that has not failed (spec/60_exceptions.md R257) and in a started body (spec/70_reset_and_hazards.md R283, log 14). -/
def State.inBody (s : State) (k : Decoder → Act Decoder Unit) : Host.Outcome State Fault Refusal :=
  match s.dec.failed with
  | some _ => .next s
  | none => s.settle (Act.requires (s.dec.stage == .started) s.dec (k s.dec))

/-- The meaning of a single instruction (R228 to R230). -/
def State.runSingle (s : State) (t : Triple) : Host.Outcome State Fault Refusal :=
  s.inBody fun d => d.issue t

/-- The meaning of a compound opcode (R231). -/
def State.runPair (s : State) (op : Byte) (t u : Triple) : Host.Outcome State Fault Refusal :=
  s.inBody fun d => d.issuePair op t u

/-! ### Window start and completion (R226, R233, R235) -/

/-- `BD_START` (R226), once after `WD_PARSE` returned `Ok` (R283). It is the window reset of the decode side (spec/70_reset_and_hazards.md R280), so `dpos`, `apos`, `remaining` and `carry` take the window-reset values of spec/10_state.md R30 in both window modes, though R226's pseudocode writes each pair in one mode (DEDUCED, log 30). -/
def Decoder.bdStart (d : Decoder) : Act Decoder Unit :=
  Act.requires (d.stage == .parsed) d <|
    let d1 := { d with
      cache := acReset d.cfg, decoded := [], pendingInst := none, dpos := 0, apos := 0
      carry := [], remaining := d.win.lenInst, stage := .started }
    match d.win.mode with
    | .standard => .ok (d1.idInit .secInst 0 d.win.lenInst) ()
    | .interleaved => .ok (d1.idInit .carry 0 0) ()

/-- How many bytes `BD_STEP` takes: `min(remaining, limit - inPos)` (R235). -/
def Decoder.arrived (d : Decoder) : Nat :=
  min d.remaining (d.deltaIn.len - d.inPos)

/-- R235's first lines: the bytes that have arrived move from `DELTA_IN` into `carry`. `iend` is set from `carry` whatever `ibuf` is: after a host's own `ID_INIT` over `secInst` it may pass the end of that buffer (DESIGN CHOICE, log 9). -/
def Decoder.intake (d : Decoder) : Decoder :=
  { d with
    carry := d.carry.append (d.deltaIn.slice d.inPos d.arrived)
    inPos := d.inPos + d.arrived
    remaining := d.remaining - d.arrived
    iend := d.carry.len + d.arrived }

/-- `Complete` (R233): leftover bytes, then the checksum, then the commit to `TGT_OUT`. -/
def Decoder.complete (d : Decoder) : Act Decoder Unit :=
  if d.hasExcess then .err d .excessData
  else if d.checksumOk = false then .err d .checksumMismatch
  else
    .ok { d with
      tgtOut := d.tgtOut.append d.decoded.bytes
      written := d.written + d.decoded.len
      decoded := []
      stage := .closed } ()

end Sys2Proof.Machine
end

