-- ==== Sys2Proof/Machine/AddRun.lean ====
section
/-! DEFINITION. The meanings of `RUN_V`, `ADD_V` and `ADD_1` to `ADD_17` (spec/49_body_decoder.md R228, R229). -/

namespace Sys2Proof.Machine

/-- `RUN_V` (R229). -/
def execRunV (size : Nat) (s : State) : Host.Outcome State Fault Refusal :=
  s.runSingle ⟨.run, size, 0⟩

/-- `ADD_V` (R228). -/
def execAddV (size : Nat) (s : State) : Host.Outcome State Fault Refusal :=
  s.runSingle ⟨.add, size, 0⟩

/-- `ADD_1` (R228). -/
def execAdd1 (s : State) : Host.Outcome State Fault Refusal :=
  s.runSingle ⟨.add, 1, 0⟩

/-- `ADD_2` (R228). -/
def execAdd2 (s : State) : Host.Outcome State Fault Refusal :=
  s.runSingle ⟨.add, 2, 0⟩

/-- `ADD_3` (R228). -/
def execAdd3 (s : State) : Host.Outcome State Fault Refusal :=
  s.runSingle ⟨.add, 3, 0⟩

/-- `ADD_4` (R228). -/
def execAdd4 (s : State) : Host.Outcome State Fault Refusal :=
  s.runSingle ⟨.add, 4, 0⟩

/-- `ADD_5` (R228). -/
def execAdd5 (s : State) : Host.Outcome State Fault Refusal :=
  s.runSingle ⟨.add, 5, 0⟩

/-- `ADD_6` (R228). -/
def execAdd6 (s : State) : Host.Outcome State Fault Refusal :=
  s.runSingle ⟨.add, 6, 0⟩

/-- `ADD_7` (R228). -/
def execAdd7 (s : State) : Host.Outcome State Fault Refusal :=
  s.runSingle ⟨.add, 7, 0⟩

/-- `ADD_8` (R228). -/
def execAdd8 (s : State) : Host.Outcome State Fault Refusal :=
  s.runSingle ⟨.add, 8, 0⟩

/-- `ADD_9` (R228). -/
def execAdd9 (s : State) : Host.Outcome State Fault Refusal :=
  s.runSingle ⟨.add, 9, 0⟩

/-- `ADD_10` (R228). -/
def execAdd10 (s : State) : Host.Outcome State Fault Refusal :=
  s.runSingle ⟨.add, 10, 0⟩

/-- `ADD_11` (R228). -/
def execAdd11 (s : State) : Host.Outcome State Fault Refusal :=
  s.runSingle ⟨.add, 11, 0⟩

/-- `ADD_12` (R228). -/
def execAdd12 (s : State) : Host.Outcome State Fault Refusal :=
  s.runSingle ⟨.add, 12, 0⟩

/-- `ADD_13` (R228). -/
def execAdd13 (s : State) : Host.Outcome State Fault Refusal :=
  s.runSingle ⟨.add, 13, 0⟩

/-- `ADD_14` (R228). -/
def execAdd14 (s : State) : Host.Outcome State Fault Refusal :=
  s.runSingle ⟨.add, 14, 0⟩

/-- `ADD_15` (R228). -/
def execAdd15 (s : State) : Host.Outcome State Fault Refusal :=
  s.runSingle ⟨.add, 15, 0⟩

/-- `ADD_16` (R228). -/
def execAdd16 (s : State) : Host.Outcome State Fault Refusal :=
  s.runSingle ⟨.add, 16, 0⟩

/-- `ADD_17` (R228). -/
def execAdd17 (s : State) : Host.Outcome State Fault Refusal :=
  s.runSingle ⟨.add, 17, 0⟩

end Sys2Proof.Machine
end

