-- ==== Sys2Proof/Machine/Compound.lean ====
section
/-! DEFINITION. The meanings of the compound opcodes: `ADD_a_COPY_c_Mm` and `COPY_4_Mm_ADD_1` (spec/49_body_decoder.md R231). -/

namespace Sys2Proof.Machine

/-- `ADD_1_COPY_4_M0` (R231). -/
def execAdd1Copy4M0 (s : State) : Host.Outcome State Fault Refusal :=
  s.runPair 0xA3 ⟨.add, 1, 0⟩ ⟨.copy, 4, 0⟩

/-- `ADD_1_COPY_5_M0` (R231). -/
def execAdd1Copy5M0 (s : State) : Host.Outcome State Fault Refusal :=
  s.runPair 0xA4 ⟨.add, 1, 0⟩ ⟨.copy, 5, 0⟩

/-- `ADD_1_COPY_6_M0` (R231). -/
def execAdd1Copy6M0 (s : State) : Host.Outcome State Fault Refusal :=
  s.runPair 0xA5 ⟨.add, 1, 0⟩ ⟨.copy, 6, 0⟩

/-- `ADD_2_COPY_4_M0` (R231). -/
def execAdd2Copy4M0 (s : State) : Host.Outcome State Fault Refusal :=
  s.runPair 0xA6 ⟨.add, 2, 0⟩ ⟨.copy, 4, 0⟩

/-- `ADD_2_COPY_5_M0` (R231). -/
def execAdd2Copy5M0 (s : State) : Host.Outcome State Fault Refusal :=
  s.runPair 0xA7 ⟨.add, 2, 0⟩ ⟨.copy, 5, 0⟩

/-- `ADD_2_COPY_6_M0` (R231). -/
def execAdd2Copy6M0 (s : State) : Host.Outcome State Fault Refusal :=
  s.runPair 0xA8 ⟨.add, 2, 0⟩ ⟨.copy, 6, 0⟩

/-- `ADD_3_COPY_4_M0` (R231). -/
def execAdd3Copy4M0 (s : State) : Host.Outcome State Fault Refusal :=
  s.runPair 0xA9 ⟨.add, 3, 0⟩ ⟨.copy, 4, 0⟩

/-- `ADD_3_COPY_5_M0` (R231). -/
def execAdd3Copy5M0 (s : State) : Host.Outcome State Fault Refusal :=
  s.runPair 0xAA ⟨.add, 3, 0⟩ ⟨.copy, 5, 0⟩

/-- `ADD_3_COPY_6_M0` (R231). -/
def execAdd3Copy6M0 (s : State) : Host.Outcome State Fault Refusal :=
  s.runPair 0xAB ⟨.add, 3, 0⟩ ⟨.copy, 6, 0⟩

/-- `ADD_4_COPY_4_M0` (R231). -/
def execAdd4Copy4M0 (s : State) : Host.Outcome State Fault Refusal :=
  s.runPair 0xAC ⟨.add, 4, 0⟩ ⟨.copy, 4, 0⟩

/-- `ADD_4_COPY_5_M0` (R231). -/
def execAdd4Copy5M0 (s : State) : Host.Outcome State Fault Refusal :=
  s.runPair 0xAD ⟨.add, 4, 0⟩ ⟨.copy, 5, 0⟩

/-- `ADD_4_COPY_6_M0` (R231). -/
def execAdd4Copy6M0 (s : State) : Host.Outcome State Fault Refusal :=
  s.runPair 0xAE ⟨.add, 4, 0⟩ ⟨.copy, 6, 0⟩

/-- `ADD_1_COPY_4_M1` (R231). -/
def execAdd1Copy4M1 (s : State) : Host.Outcome State Fault Refusal :=
  s.runPair 0xAF ⟨.add, 1, 0⟩ ⟨.copy, 4, 1⟩

/-- `ADD_1_COPY_5_M1` (R231). -/
def execAdd1Copy5M1 (s : State) : Host.Outcome State Fault Refusal :=
  s.runPair 0xB0 ⟨.add, 1, 0⟩ ⟨.copy, 5, 1⟩

/-- `ADD_1_COPY_6_M1` (R231). -/
def execAdd1Copy6M1 (s : State) : Host.Outcome State Fault Refusal :=
  s.runPair 0xB1 ⟨.add, 1, 0⟩ ⟨.copy, 6, 1⟩

/-- `ADD_2_COPY_4_M1` (R231). -/
def execAdd2Copy4M1 (s : State) : Host.Outcome State Fault Refusal :=
  s.runPair 0xB2 ⟨.add, 2, 0⟩ ⟨.copy, 4, 1⟩

/-- `ADD_2_COPY_5_M1` (R231). -/
def execAdd2Copy5M1 (s : State) : Host.Outcome State Fault Refusal :=
  s.runPair 0xB3 ⟨.add, 2, 0⟩ ⟨.copy, 5, 1⟩

/-- `ADD_2_COPY_6_M1` (R231). -/
def execAdd2Copy6M1 (s : State) : Host.Outcome State Fault Refusal :=
  s.runPair 0xB4 ⟨.add, 2, 0⟩ ⟨.copy, 6, 1⟩

/-- `ADD_3_COPY_4_M1` (R231). -/
def execAdd3Copy4M1 (s : State) : Host.Outcome State Fault Refusal :=
  s.runPair 0xB5 ⟨.add, 3, 0⟩ ⟨.copy, 4, 1⟩

/-- `ADD_3_COPY_5_M1` (R231). -/
def execAdd3Copy5M1 (s : State) : Host.Outcome State Fault Refusal :=
  s.runPair 0xB6 ⟨.add, 3, 0⟩ ⟨.copy, 5, 1⟩

/-- `ADD_3_COPY_6_M1` (R231). -/
def execAdd3Copy6M1 (s : State) : Host.Outcome State Fault Refusal :=
  s.runPair 0xB7 ⟨.add, 3, 0⟩ ⟨.copy, 6, 1⟩

/-- `ADD_4_COPY_4_M1` (R231). -/
def execAdd4Copy4M1 (s : State) : Host.Outcome State Fault Refusal :=
  s.runPair 0xB8 ⟨.add, 4, 0⟩ ⟨.copy, 4, 1⟩

/-- `ADD_4_COPY_5_M1` (R231). -/
def execAdd4Copy5M1 (s : State) : Host.Outcome State Fault Refusal :=
  s.runPair 0xB9 ⟨.add, 4, 0⟩ ⟨.copy, 5, 1⟩

/-- `ADD_4_COPY_6_M1` (R231). -/
def execAdd4Copy6M1 (s : State) : Host.Outcome State Fault Refusal :=
  s.runPair 0xBA ⟨.add, 4, 0⟩ ⟨.copy, 6, 1⟩

/-- `ADD_1_COPY_4_M2` (R231). -/
def execAdd1Copy4M2 (s : State) : Host.Outcome State Fault Refusal :=
  s.runPair 0xBB ⟨.add, 1, 0⟩ ⟨.copy, 4, 2⟩

/-- `ADD_1_COPY_5_M2` (R231). -/
def execAdd1Copy5M2 (s : State) : Host.Outcome State Fault Refusal :=
  s.runPair 0xBC ⟨.add, 1, 0⟩ ⟨.copy, 5, 2⟩

/-- `ADD_1_COPY_6_M2` (R231). -/
def execAdd1Copy6M2 (s : State) : Host.Outcome State Fault Refusal :=
  s.runPair 0xBD ⟨.add, 1, 0⟩ ⟨.copy, 6, 2⟩

/-- `ADD_2_COPY_4_M2` (R231). -/
def execAdd2Copy4M2 (s : State) : Host.Outcome State Fault Refusal :=
  s.runPair 0xBE ⟨.add, 2, 0⟩ ⟨.copy, 4, 2⟩

/-- `ADD_2_COPY_5_M2` (R231). -/
def execAdd2Copy5M2 (s : State) : Host.Outcome State Fault Refusal :=
  s.runPair 0xBF ⟨.add, 2, 0⟩ ⟨.copy, 5, 2⟩

/-- `ADD_2_COPY_6_M2` (R231). -/
def execAdd2Copy6M2 (s : State) : Host.Outcome State Fault Refusal :=
  s.runPair 0xC0 ⟨.add, 2, 0⟩ ⟨.copy, 6, 2⟩

/-- `ADD_3_COPY_4_M2` (R231). -/
def execAdd3Copy4M2 (s : State) : Host.Outcome State Fault Refusal :=
  s.runPair 0xC1 ⟨.add, 3, 0⟩ ⟨.copy, 4, 2⟩

/-- `ADD_3_COPY_5_M2` (R231). -/
def execAdd3Copy5M2 (s : State) : Host.Outcome State Fault Refusal :=
  s.runPair 0xC2 ⟨.add, 3, 0⟩ ⟨.copy, 5, 2⟩

/-- `ADD_3_COPY_6_M2` (R231). -/
def execAdd3Copy6M2 (s : State) : Host.Outcome State Fault Refusal :=
  s.runPair 0xC3 ⟨.add, 3, 0⟩ ⟨.copy, 6, 2⟩

/-- `ADD_4_COPY_4_M2` (R231). -/
def execAdd4Copy4M2 (s : State) : Host.Outcome State Fault Refusal :=
  s.runPair 0xC4 ⟨.add, 4, 0⟩ ⟨.copy, 4, 2⟩

/-- `ADD_4_COPY_5_M2` (R231). -/
def execAdd4Copy5M2 (s : State) : Host.Outcome State Fault Refusal :=
  s.runPair 0xC5 ⟨.add, 4, 0⟩ ⟨.copy, 5, 2⟩

/-- `ADD_4_COPY_6_M2` (R231). -/
def execAdd4Copy6M2 (s : State) : Host.Outcome State Fault Refusal :=
  s.runPair 0xC6 ⟨.add, 4, 0⟩ ⟨.copy, 6, 2⟩

/-- `ADD_1_COPY_4_M3` (R231). -/
def execAdd1Copy4M3 (s : State) : Host.Outcome State Fault Refusal :=
  s.runPair 0xC7 ⟨.add, 1, 0⟩ ⟨.copy, 4, 3⟩

/-- `ADD_1_COPY_5_M3` (R231). -/
def execAdd1Copy5M3 (s : State) : Host.Outcome State Fault Refusal :=
  s.runPair 0xC8 ⟨.add, 1, 0⟩ ⟨.copy, 5, 3⟩

/-- `ADD_1_COPY_6_M3` (R231). -/
def execAdd1Copy6M3 (s : State) : Host.Outcome State Fault Refusal :=
  s.runPair 0xC9 ⟨.add, 1, 0⟩ ⟨.copy, 6, 3⟩

/-- `ADD_2_COPY_4_M3` (R231). -/
def execAdd2Copy4M3 (s : State) : Host.Outcome State Fault Refusal :=
  s.runPair 0xCA ⟨.add, 2, 0⟩ ⟨.copy, 4, 3⟩

/-- `ADD_2_COPY_5_M3` (R231). -/
def execAdd2Copy5M3 (s : State) : Host.Outcome State Fault Refusal :=
  s.runPair 0xCB ⟨.add, 2, 0⟩ ⟨.copy, 5, 3⟩

/-- `ADD_2_COPY_6_M3` (R231). -/
def execAdd2Copy6M3 (s : State) : Host.Outcome State Fault Refusal :=
  s.runPair 0xCC ⟨.add, 2, 0⟩ ⟨.copy, 6, 3⟩

/-- `ADD_3_COPY_4_M3` (R231). -/
def execAdd3Copy4M3 (s : State) : Host.Outcome State Fault Refusal :=
  s.runPair 0xCD ⟨.add, 3, 0⟩ ⟨.copy, 4, 3⟩

/-- `ADD_3_COPY_5_M3` (R231). -/
def execAdd3Copy5M3 (s : State) : Host.Outcome State Fault Refusal :=
  s.runPair 0xCE ⟨.add, 3, 0⟩ ⟨.copy, 5, 3⟩

/-- `ADD_3_COPY_6_M3` (R231). -/
def execAdd3Copy6M3 (s : State) : Host.Outcome State Fault Refusal :=
  s.runPair 0xCF ⟨.add, 3, 0⟩ ⟨.copy, 6, 3⟩

/-- `ADD_4_COPY_4_M3` (R231). -/
def execAdd4Copy4M3 (s : State) : Host.Outcome State Fault Refusal :=
  s.runPair 0xD0 ⟨.add, 4, 0⟩ ⟨.copy, 4, 3⟩

/-- `ADD_4_COPY_5_M3` (R231). -/
def execAdd4Copy5M3 (s : State) : Host.Outcome State Fault Refusal :=
  s.runPair 0xD1 ⟨.add, 4, 0⟩ ⟨.copy, 5, 3⟩

/-- `ADD_4_COPY_6_M3` (R231). -/
def execAdd4Copy6M3 (s : State) : Host.Outcome State Fault Refusal :=
  s.runPair 0xD2 ⟨.add, 4, 0⟩ ⟨.copy, 6, 3⟩

/-- `ADD_1_COPY_4_M4` (R231). -/
def execAdd1Copy4M4 (s : State) : Host.Outcome State Fault Refusal :=
  s.runPair 0xD3 ⟨.add, 1, 0⟩ ⟨.copy, 4, 4⟩

/-- `ADD_1_COPY_5_M4` (R231). -/
def execAdd1Copy5M4 (s : State) : Host.Outcome State Fault Refusal :=
  s.runPair 0xD4 ⟨.add, 1, 0⟩ ⟨.copy, 5, 4⟩

/-- `ADD_1_COPY_6_M4` (R231). -/
def execAdd1Copy6M4 (s : State) : Host.Outcome State Fault Refusal :=
  s.runPair 0xD5 ⟨.add, 1, 0⟩ ⟨.copy, 6, 4⟩

/-- `ADD_2_COPY_4_M4` (R231). -/
def execAdd2Copy4M4 (s : State) : Host.Outcome State Fault Refusal :=
  s.runPair 0xD6 ⟨.add, 2, 0⟩ ⟨.copy, 4, 4⟩

/-- `ADD_2_COPY_5_M4` (R231). -/
def execAdd2Copy5M4 (s : State) : Host.Outcome State Fault Refusal :=
  s.runPair 0xD7 ⟨.add, 2, 0⟩ ⟨.copy, 5, 4⟩

/-- `ADD_2_COPY_6_M4` (R231). -/
def execAdd2Copy6M4 (s : State) : Host.Outcome State Fault Refusal :=
  s.runPair 0xD8 ⟨.add, 2, 0⟩ ⟨.copy, 6, 4⟩

/-- `ADD_3_COPY_4_M4` (R231). -/
def execAdd3Copy4M4 (s : State) : Host.Outcome State Fault Refusal :=
  s.runPair 0xD9 ⟨.add, 3, 0⟩ ⟨.copy, 4, 4⟩

/-- `ADD_3_COPY_5_M4` (R231). -/
def execAdd3Copy5M4 (s : State) : Host.Outcome State Fault Refusal :=
  s.runPair 0xDA ⟨.add, 3, 0⟩ ⟨.copy, 5, 4⟩

/-- `ADD_3_COPY_6_M4` (R231). -/
def execAdd3Copy6M4 (s : State) : Host.Outcome State Fault Refusal :=
  s.runPair 0xDB ⟨.add, 3, 0⟩ ⟨.copy, 6, 4⟩

/-- `ADD_4_COPY_4_M4` (R231). -/
def execAdd4Copy4M4 (s : State) : Host.Outcome State Fault Refusal :=
  s.runPair 0xDC ⟨.add, 4, 0⟩ ⟨.copy, 4, 4⟩

/-- `ADD_4_COPY_5_M4` (R231). -/
def execAdd4Copy5M4 (s : State) : Host.Outcome State Fault Refusal :=
  s.runPair 0xDD ⟨.add, 4, 0⟩ ⟨.copy, 5, 4⟩

/-- `ADD_4_COPY_6_M4` (R231). -/
def execAdd4Copy6M4 (s : State) : Host.Outcome State Fault Refusal :=
  s.runPair 0xDE ⟨.add, 4, 0⟩ ⟨.copy, 6, 4⟩

/-- `ADD_1_COPY_4_M5` (R231). -/
def execAdd1Copy4M5 (s : State) : Host.Outcome State Fault Refusal :=
  s.runPair 0xDF ⟨.add, 1, 0⟩ ⟨.copy, 4, 5⟩

/-- `ADD_1_COPY_5_M5` (R231). -/
def execAdd1Copy5M5 (s : State) : Host.Outcome State Fault Refusal :=
  s.runPair 0xE0 ⟨.add, 1, 0⟩ ⟨.copy, 5, 5⟩

/-- `ADD_1_COPY_6_M5` (R231). -/
def execAdd1Copy6M5 (s : State) : Host.Outcome State Fault Refusal :=
  s.runPair 0xE1 ⟨.add, 1, 0⟩ ⟨.copy, 6, 5⟩

/-- `ADD_2_COPY_4_M5` (R231). -/
def execAdd2Copy4M5 (s : State) : Host.Outcome State Fault Refusal :=
  s.runPair 0xE2 ⟨.add, 2, 0⟩ ⟨.copy, 4, 5⟩

/-- `ADD_2_COPY_5_M5` (R231). -/
def execAdd2Copy5M5 (s : State) : Host.Outcome State Fault Refusal :=
  s.runPair 0xE3 ⟨.add, 2, 0⟩ ⟨.copy, 5, 5⟩

/-- `ADD_2_COPY_6_M5` (R231). -/
def execAdd2Copy6M5 (s : State) : Host.Outcome State Fault Refusal :=
  s.runPair 0xE4 ⟨.add, 2, 0⟩ ⟨.copy, 6, 5⟩

/-- `ADD_3_COPY_4_M5` (R231). -/
def execAdd3Copy4M5 (s : State) : Host.Outcome State Fault Refusal :=
  s.runPair 0xE5 ⟨.add, 3, 0⟩ ⟨.copy, 4, 5⟩

/-- `ADD_3_COPY_5_M5` (R231). -/
def execAdd3Copy5M5 (s : State) : Host.Outcome State Fault Refusal :=
  s.runPair 0xE6 ⟨.add, 3, 0⟩ ⟨.copy, 5, 5⟩

/-- `ADD_3_COPY_6_M5` (R231). -/
def execAdd3Copy6M5 (s : State) : Host.Outcome State Fault Refusal :=
  s.runPair 0xE7 ⟨.add, 3, 0⟩ ⟨.copy, 6, 5⟩

/-- `ADD_4_COPY_4_M5` (R231). -/
def execAdd4Copy4M5 (s : State) : Host.Outcome State Fault Refusal :=
  s.runPair 0xE8 ⟨.add, 4, 0⟩ ⟨.copy, 4, 5⟩

/-- `ADD_4_COPY_5_M5` (R231). -/
def execAdd4Copy5M5 (s : State) : Host.Outcome State Fault Refusal :=
  s.runPair 0xE9 ⟨.add, 4, 0⟩ ⟨.copy, 5, 5⟩

/-- `ADD_4_COPY_6_M5` (R231). -/
def execAdd4Copy6M5 (s : State) : Host.Outcome State Fault Refusal :=
  s.runPair 0xEA ⟨.add, 4, 0⟩ ⟨.copy, 6, 5⟩

/-- `ADD_1_COPY_4_M6` (R231). -/
def execAdd1Copy4M6 (s : State) : Host.Outcome State Fault Refusal :=
  s.runPair 0xEB ⟨.add, 1, 0⟩ ⟨.copy, 4, 6⟩

/-- `ADD_2_COPY_4_M6` (R231). -/
def execAdd2Copy4M6 (s : State) : Host.Outcome State Fault Refusal :=
  s.runPair 0xEC ⟨.add, 2, 0⟩ ⟨.copy, 4, 6⟩

/-- `ADD_3_COPY_4_M6` (R231). -/
def execAdd3Copy4M6 (s : State) : Host.Outcome State Fault Refusal :=
  s.runPair 0xED ⟨.add, 3, 0⟩ ⟨.copy, 4, 6⟩

/-- `ADD_4_COPY_4_M6` (R231). -/
def execAdd4Copy4M6 (s : State) : Host.Outcome State Fault Refusal :=
  s.runPair 0xEE ⟨.add, 4, 0⟩ ⟨.copy, 4, 6⟩

/-- `ADD_1_COPY_4_M7` (R231). -/
def execAdd1Copy4M7 (s : State) : Host.Outcome State Fault Refusal :=
  s.runPair 0xEF ⟨.add, 1, 0⟩ ⟨.copy, 4, 7⟩

/-- `ADD_2_COPY_4_M7` (R231). -/
def execAdd2Copy4M7 (s : State) : Host.Outcome State Fault Refusal :=
  s.runPair 0xF0 ⟨.add, 2, 0⟩ ⟨.copy, 4, 7⟩

/-- `ADD_3_COPY_4_M7` (R231). -/
def execAdd3Copy4M7 (s : State) : Host.Outcome State Fault Refusal :=
  s.runPair 0xF1 ⟨.add, 3, 0⟩ ⟨.copy, 4, 7⟩

/-- `ADD_4_COPY_4_M7` (R231). -/
def execAdd4Copy4M7 (s : State) : Host.Outcome State Fault Refusal :=
  s.runPair 0xF2 ⟨.add, 4, 0⟩ ⟨.copy, 4, 7⟩

/-- `ADD_1_COPY_4_M8` (R231). -/
def execAdd1Copy4M8 (s : State) : Host.Outcome State Fault Refusal :=
  s.runPair 0xF3 ⟨.add, 1, 0⟩ ⟨.copy, 4, 8⟩

/-- `ADD_2_COPY_4_M8` (R231). -/
def execAdd2Copy4M8 (s : State) : Host.Outcome State Fault Refusal :=
  s.runPair 0xF4 ⟨.add, 2, 0⟩ ⟨.copy, 4, 8⟩

/-- `ADD_3_COPY_4_M8` (R231). -/
def execAdd3Copy4M8 (s : State) : Host.Outcome State Fault Refusal :=
  s.runPair 0xF5 ⟨.add, 3, 0⟩ ⟨.copy, 4, 8⟩

/-- `ADD_4_COPY_4_M8` (R231). -/
def execAdd4Copy4M8 (s : State) : Host.Outcome State Fault Refusal :=
  s.runPair 0xF6 ⟨.add, 4, 0⟩ ⟨.copy, 4, 8⟩

/-- `COPY_4_M0_ADD_1` (R231). -/
def execCopy4M0Add1 (s : State) : Host.Outcome State Fault Refusal :=
  s.runPair 0xF7 ⟨.copy, 4, 0⟩ ⟨.add, 1, 0⟩

/-- `COPY_4_M1_ADD_1` (R231). -/
def execCopy4M1Add1 (s : State) : Host.Outcome State Fault Refusal :=
  s.runPair 0xF8 ⟨.copy, 4, 1⟩ ⟨.add, 1, 0⟩

/-- `COPY_4_M2_ADD_1` (R231). -/
def execCopy4M2Add1 (s : State) : Host.Outcome State Fault Refusal :=
  s.runPair 0xF9 ⟨.copy, 4, 2⟩ ⟨.add, 1, 0⟩

/-- `COPY_4_M3_ADD_1` (R231). -/
def execCopy4M3Add1 (s : State) : Host.Outcome State Fault Refusal :=
  s.runPair 0xFA ⟨.copy, 4, 3⟩ ⟨.add, 1, 0⟩

/-- `COPY_4_M4_ADD_1` (R231). -/
def execCopy4M4Add1 (s : State) : Host.Outcome State Fault Refusal :=
  s.runPair 0xFB ⟨.copy, 4, 4⟩ ⟨.add, 1, 0⟩

/-- `COPY_4_M5_ADD_1` (R231). -/
def execCopy4M5Add1 (s : State) : Host.Outcome State Fault Refusal :=
  s.runPair 0xFC ⟨.copy, 4, 5⟩ ⟨.add, 1, 0⟩

/-- `COPY_4_M6_ADD_1` (R231). -/
def execCopy4M6Add1 (s : State) : Host.Outcome State Fault Refusal :=
  s.runPair 0xFD ⟨.copy, 4, 6⟩ ⟨.add, 1, 0⟩

/-- `COPY_4_M7_ADD_1` (R231). -/
def execCopy4M7Add1 (s : State) : Host.Outcome State Fault Refusal :=
  s.runPair 0xFE ⟨.copy, 4, 7⟩ ⟨.add, 1, 0⟩

/-- `COPY_4_M8_ADD_1` (R231). -/
def execCopy4M8Add1 (s : State) : Host.Outcome State Fault Refusal :=
  s.runPair 0xFF ⟨.copy, 4, 8⟩ ⟨.add, 1, 0⟩

end Sys2Proof.Machine
end

