-- ==== Sys2Proof/Machine/Copy.lean ====
section
/-! DEFINITION. The meanings of `COPY_V_Mm` and `COPY_4_Mm` to `COPY_18_Mm`, modes 0 to 8 (spec/49_body_decoder.md R230). -/

namespace Sys2Proof.Machine

/-- `COPY_V_M0` (R230). -/
def execCopyVM0 (size : Nat) (s : State) : Host.Outcome State Fault Refusal :=
  s.runSingle ⟨.copy, size, 0⟩

/-- `COPY_4_M0` (R230). -/
def execCopy4M0 (s : State) : Host.Outcome State Fault Refusal :=
  s.runSingle ⟨.copy, 4, 0⟩

/-- `COPY_5_M0` (R230). -/
def execCopy5M0 (s : State) : Host.Outcome State Fault Refusal :=
  s.runSingle ⟨.copy, 5, 0⟩

/-- `COPY_6_M0` (R230). -/
def execCopy6M0 (s : State) : Host.Outcome State Fault Refusal :=
  s.runSingle ⟨.copy, 6, 0⟩

/-- `COPY_7_M0` (R230). -/
def execCopy7M0 (s : State) : Host.Outcome State Fault Refusal :=
  s.runSingle ⟨.copy, 7, 0⟩

/-- `COPY_8_M0` (R230). -/
def execCopy8M0 (s : State) : Host.Outcome State Fault Refusal :=
  s.runSingle ⟨.copy, 8, 0⟩

/-- `COPY_9_M0` (R230). -/
def execCopy9M0 (s : State) : Host.Outcome State Fault Refusal :=
  s.runSingle ⟨.copy, 9, 0⟩

/-- `COPY_10_M0` (R230). -/
def execCopy10M0 (s : State) : Host.Outcome State Fault Refusal :=
  s.runSingle ⟨.copy, 10, 0⟩

/-- `COPY_11_M0` (R230). -/
def execCopy11M0 (s : State) : Host.Outcome State Fault Refusal :=
  s.runSingle ⟨.copy, 11, 0⟩

/-- `COPY_12_M0` (R230). -/
def execCopy12M0 (s : State) : Host.Outcome State Fault Refusal :=
  s.runSingle ⟨.copy, 12, 0⟩

/-- `COPY_13_M0` (R230). -/
def execCopy13M0 (s : State) : Host.Outcome State Fault Refusal :=
  s.runSingle ⟨.copy, 13, 0⟩

/-- `COPY_14_M0` (R230). -/
def execCopy14M0 (s : State) : Host.Outcome State Fault Refusal :=
  s.runSingle ⟨.copy, 14, 0⟩

/-- `COPY_15_M0` (R230). -/
def execCopy15M0 (s : State) : Host.Outcome State Fault Refusal :=
  s.runSingle ⟨.copy, 15, 0⟩

/-- `COPY_16_M0` (R230). -/
def execCopy16M0 (s : State) : Host.Outcome State Fault Refusal :=
  s.runSingle ⟨.copy, 16, 0⟩

/-- `COPY_17_M0` (R230). -/
def execCopy17M0 (s : State) : Host.Outcome State Fault Refusal :=
  s.runSingle ⟨.copy, 17, 0⟩

/-- `COPY_18_M0` (R230). -/
def execCopy18M0 (s : State) : Host.Outcome State Fault Refusal :=
  s.runSingle ⟨.copy, 18, 0⟩

/-- `COPY_V_M1` (R230). -/
def execCopyVM1 (size : Nat) (s : State) : Host.Outcome State Fault Refusal :=
  s.runSingle ⟨.copy, size, 1⟩

/-- `COPY_4_M1` (R230). -/
def execCopy4M1 (s : State) : Host.Outcome State Fault Refusal :=
  s.runSingle ⟨.copy, 4, 1⟩

/-- `COPY_5_M1` (R230). -/
def execCopy5M1 (s : State) : Host.Outcome State Fault Refusal :=
  s.runSingle ⟨.copy, 5, 1⟩

/-- `COPY_6_M1` (R230). -/
def execCopy6M1 (s : State) : Host.Outcome State Fault Refusal :=
  s.runSingle ⟨.copy, 6, 1⟩

/-- `COPY_7_M1` (R230). -/
def execCopy7M1 (s : State) : Host.Outcome State Fault Refusal :=
  s.runSingle ⟨.copy, 7, 1⟩

/-- `COPY_8_M1` (R230). -/
def execCopy8M1 (s : State) : Host.Outcome State Fault Refusal :=
  s.runSingle ⟨.copy, 8, 1⟩

/-- `COPY_9_M1` (R230). -/
def execCopy9M1 (s : State) : Host.Outcome State Fault Refusal :=
  s.runSingle ⟨.copy, 9, 1⟩

/-- `COPY_10_M1` (R230). -/
def execCopy10M1 (s : State) : Host.Outcome State Fault Refusal :=
  s.runSingle ⟨.copy, 10, 1⟩

/-- `COPY_11_M1` (R230). -/
def execCopy11M1 (s : State) : Host.Outcome State Fault Refusal :=
  s.runSingle ⟨.copy, 11, 1⟩

/-- `COPY_12_M1` (R230). -/
def execCopy12M1 (s : State) : Host.Outcome State Fault Refusal :=
  s.runSingle ⟨.copy, 12, 1⟩

/-- `COPY_13_M1` (R230). -/
def execCopy13M1 (s : State) : Host.Outcome State Fault Refusal :=
  s.runSingle ⟨.copy, 13, 1⟩

/-- `COPY_14_M1` (R230). -/
def execCopy14M1 (s : State) : Host.Outcome State Fault Refusal :=
  s.runSingle ⟨.copy, 14, 1⟩

/-- `COPY_15_M1` (R230). -/
def execCopy15M1 (s : State) : Host.Outcome State Fault Refusal :=
  s.runSingle ⟨.copy, 15, 1⟩

/-- `COPY_16_M1` (R230). -/
def execCopy16M1 (s : State) : Host.Outcome State Fault Refusal :=
  s.runSingle ⟨.copy, 16, 1⟩

/-- `COPY_17_M1` (R230). -/
def execCopy17M1 (s : State) : Host.Outcome State Fault Refusal :=
  s.runSingle ⟨.copy, 17, 1⟩

/-- `COPY_18_M1` (R230). -/
def execCopy18M1 (s : State) : Host.Outcome State Fault Refusal :=
  s.runSingle ⟨.copy, 18, 1⟩

/-- `COPY_V_M2` (R230). -/
def execCopyVM2 (size : Nat) (s : State) : Host.Outcome State Fault Refusal :=
  s.runSingle ⟨.copy, size, 2⟩

/-- `COPY_4_M2` (R230). -/
def execCopy4M2 (s : State) : Host.Outcome State Fault Refusal :=
  s.runSingle ⟨.copy, 4, 2⟩

/-- `COPY_5_M2` (R230). -/
def execCopy5M2 (s : State) : Host.Outcome State Fault Refusal :=
  s.runSingle ⟨.copy, 5, 2⟩

/-- `COPY_6_M2` (R230). -/
def execCopy6M2 (s : State) : Host.Outcome State Fault Refusal :=
  s.runSingle ⟨.copy, 6, 2⟩

/-- `COPY_7_M2` (R230). -/
def execCopy7M2 (s : State) : Host.Outcome State Fault Refusal :=
  s.runSingle ⟨.copy, 7, 2⟩

/-- `COPY_8_M2` (R230). -/
def execCopy8M2 (s : State) : Host.Outcome State Fault Refusal :=
  s.runSingle ⟨.copy, 8, 2⟩

/-- `COPY_9_M2` (R230). -/
def execCopy9M2 (s : State) : Host.Outcome State Fault Refusal :=
  s.runSingle ⟨.copy, 9, 2⟩

/-- `COPY_10_M2` (R230). -/
def execCopy10M2 (s : State) : Host.Outcome State Fault Refusal :=
  s.runSingle ⟨.copy, 10, 2⟩

/-- `COPY_11_M2` (R230). -/
def execCopy11M2 (s : State) : Host.Outcome State Fault Refusal :=
  s.runSingle ⟨.copy, 11, 2⟩

/-- `COPY_12_M2` (R230). -/
def execCopy12M2 (s : State) : Host.Outcome State Fault Refusal :=
  s.runSingle ⟨.copy, 12, 2⟩

/-- `COPY_13_M2` (R230). -/
def execCopy13M2 (s : State) : Host.Outcome State Fault Refusal :=
  s.runSingle ⟨.copy, 13, 2⟩

/-- `COPY_14_M2` (R230). -/
def execCopy14M2 (s : State) : Host.Outcome State Fault Refusal :=
  s.runSingle ⟨.copy, 14, 2⟩

/-- `COPY_15_M2` (R230). -/
def execCopy15M2 (s : State) : Host.Outcome State Fault Refusal :=
  s.runSingle ⟨.copy, 15, 2⟩

/-- `COPY_16_M2` (R230). -/
def execCopy16M2 (s : State) : Host.Outcome State Fault Refusal :=
  s.runSingle ⟨.copy, 16, 2⟩

/-- `COPY_17_M2` (R230). -/
def execCopy17M2 (s : State) : Host.Outcome State Fault Refusal :=
  s.runSingle ⟨.copy, 17, 2⟩

/-- `COPY_18_M2` (R230). -/
def execCopy18M2 (s : State) : Host.Outcome State Fault Refusal :=
  s.runSingle ⟨.copy, 18, 2⟩

/-- `COPY_V_M3` (R230). -/
def execCopyVM3 (size : Nat) (s : State) : Host.Outcome State Fault Refusal :=
  s.runSingle ⟨.copy, size, 3⟩

/-- `COPY_4_M3` (R230). -/
def execCopy4M3 (s : State) : Host.Outcome State Fault Refusal :=
  s.runSingle ⟨.copy, 4, 3⟩

/-- `COPY_5_M3` (R230). -/
def execCopy5M3 (s : State) : Host.Outcome State Fault Refusal :=
  s.runSingle ⟨.copy, 5, 3⟩

/-- `COPY_6_M3` (R230). -/
def execCopy6M3 (s : State) : Host.Outcome State Fault Refusal :=
  s.runSingle ⟨.copy, 6, 3⟩

/-- `COPY_7_M3` (R230). -/
def execCopy7M3 (s : State) : Host.Outcome State Fault Refusal :=
  s.runSingle ⟨.copy, 7, 3⟩

/-- `COPY_8_M3` (R230). -/
def execCopy8M3 (s : State) : Host.Outcome State Fault Refusal :=
  s.runSingle ⟨.copy, 8, 3⟩

/-- `COPY_9_M3` (R230). -/
def execCopy9M3 (s : State) : Host.Outcome State Fault Refusal :=
  s.runSingle ⟨.copy, 9, 3⟩

/-- `COPY_10_M3` (R230). -/
def execCopy10M3 (s : State) : Host.Outcome State Fault Refusal :=
  s.runSingle ⟨.copy, 10, 3⟩

/-- `COPY_11_M3` (R230). -/
def execCopy11M3 (s : State) : Host.Outcome State Fault Refusal :=
  s.runSingle ⟨.copy, 11, 3⟩

/-- `COPY_12_M3` (R230). -/
def execCopy12M3 (s : State) : Host.Outcome State Fault Refusal :=
  s.runSingle ⟨.copy, 12, 3⟩

/-- `COPY_13_M3` (R230). -/
def execCopy13M3 (s : State) : Host.Outcome State Fault Refusal :=
  s.runSingle ⟨.copy, 13, 3⟩

/-- `COPY_14_M3` (R230). -/
def execCopy14M3 (s : State) : Host.Outcome State Fault Refusal :=
  s.runSingle ⟨.copy, 14, 3⟩

/-- `COPY_15_M3` (R230). -/
def execCopy15M3 (s : State) : Host.Outcome State Fault Refusal :=
  s.runSingle ⟨.copy, 15, 3⟩

/-- `COPY_16_M3` (R230). -/
def execCopy16M3 (s : State) : Host.Outcome State Fault Refusal :=
  s.runSingle ⟨.copy, 16, 3⟩

/-- `COPY_17_M3` (R230). -/
def execCopy17M3 (s : State) : Host.Outcome State Fault Refusal :=
  s.runSingle ⟨.copy, 17, 3⟩

/-- `COPY_18_M3` (R230). -/
def execCopy18M3 (s : State) : Host.Outcome State Fault Refusal :=
  s.runSingle ⟨.copy, 18, 3⟩

/-- `COPY_V_M4` (R230). -/
def execCopyVM4 (size : Nat) (s : State) : Host.Outcome State Fault Refusal :=
  s.runSingle ⟨.copy, size, 4⟩

/-- `COPY_4_M4` (R230). -/
def execCopy4M4 (s : State) : Host.Outcome State Fault Refusal :=
  s.runSingle ⟨.copy, 4, 4⟩

/-- `COPY_5_M4` (R230). -/
def execCopy5M4 (s : State) : Host.Outcome State Fault Refusal :=
  s.runSingle ⟨.copy, 5, 4⟩

/-- `COPY_6_M4` (R230). -/
def execCopy6M4 (s : State) : Host.Outcome State Fault Refusal :=
  s.runSingle ⟨.copy, 6, 4⟩

/-- `COPY_7_M4` (R230). -/
def execCopy7M4 (s : State) : Host.Outcome State Fault Refusal :=
  s.runSingle ⟨.copy, 7, 4⟩

/-- `COPY_8_M4` (R230). -/
def execCopy8M4 (s : State) : Host.Outcome State Fault Refusal :=
  s.runSingle ⟨.copy, 8, 4⟩

/-- `COPY_9_M4` (R230). -/
def execCopy9M4 (s : State) : Host.Outcome State Fault Refusal :=
  s.runSingle ⟨.copy, 9, 4⟩

/-- `COPY_10_M4` (R230). -/
def execCopy10M4 (s : State) : Host.Outcome State Fault Refusal :=
  s.runSingle ⟨.copy, 10, 4⟩

/-- `COPY_11_M4` (R230). -/
def execCopy11M4 (s : State) : Host.Outcome State Fault Refusal :=
  s.runSingle ⟨.copy, 11, 4⟩

/-- `COPY_12_M4` (R230). -/
def execCopy12M4 (s : State) : Host.Outcome State Fault Refusal :=
  s.runSingle ⟨.copy, 12, 4⟩

/-- `COPY_13_M4` (R230). -/
def execCopy13M4 (s : State) : Host.Outcome State Fault Refusal :=
  s.runSingle ⟨.copy, 13, 4⟩

/-- `COPY_14_M4` (R230). -/
def execCopy14M4 (s : State) : Host.Outcome State Fault Refusal :=
  s.runSingle ⟨.copy, 14, 4⟩

/-- `COPY_15_M4` (R230). -/
def execCopy15M4 (s : State) : Host.Outcome State Fault Refusal :=
  s.runSingle ⟨.copy, 15, 4⟩

/-- `COPY_16_M4` (R230). -/
def execCopy16M4 (s : State) : Host.Outcome State Fault Refusal :=
  s.runSingle ⟨.copy, 16, 4⟩

/-- `COPY_17_M4` (R230). -/
def execCopy17M4 (s : State) : Host.Outcome State Fault Refusal :=
  s.runSingle ⟨.copy, 17, 4⟩

/-- `COPY_18_M4` (R230). -/
def execCopy18M4 (s : State) : Host.Outcome State Fault Refusal :=
  s.runSingle ⟨.copy, 18, 4⟩

/-- `COPY_V_M5` (R230). -/
def execCopyVM5 (size : Nat) (s : State) : Host.Outcome State Fault Refusal :=
  s.runSingle ⟨.copy, size, 5⟩

/-- `COPY_4_M5` (R230). -/
def execCopy4M5 (s : State) : Host.Outcome State Fault Refusal :=
  s.runSingle ⟨.copy, 4, 5⟩

/-- `COPY_5_M5` (R230). -/
def execCopy5M5 (s : State) : Host.Outcome State Fault Refusal :=
  s.runSingle ⟨.copy, 5, 5⟩

/-- `COPY_6_M5` (R230). -/
def execCopy6M5 (s : State) : Host.Outcome State Fault Refusal :=
  s.runSingle ⟨.copy, 6, 5⟩

/-- `COPY_7_M5` (R230). -/
def execCopy7M5 (s : State) : Host.Outcome State Fault Refusal :=
  s.runSingle ⟨.copy, 7, 5⟩

/-- `COPY_8_M5` (R230). -/
def execCopy8M5 (s : State) : Host.Outcome State Fault Refusal :=
  s.runSingle ⟨.copy, 8, 5⟩

/-- `COPY_9_M5` (R230). -/
def execCopy9M5 (s : State) : Host.Outcome State Fault Refusal :=
  s.runSingle ⟨.copy, 9, 5⟩

/-- `COPY_10_M5` (R230). -/
def execCopy10M5 (s : State) : Host.Outcome State Fault Refusal :=
  s.runSingle ⟨.copy, 10, 5⟩

/-- `COPY_11_M5` (R230). -/
def execCopy11M5 (s : State) : Host.Outcome State Fault Refusal :=
  s.runSingle ⟨.copy, 11, 5⟩

/-- `COPY_12_M5` (R230). -/
def execCopy12M5 (s : State) : Host.Outcome State Fault Refusal :=
  s.runSingle ⟨.copy, 12, 5⟩

/-- `COPY_13_M5` (R230). -/
def execCopy13M5 (s : State) : Host.Outcome State Fault Refusal :=
  s.runSingle ⟨.copy, 13, 5⟩

/-- `COPY_14_M5` (R230). -/
def execCopy14M5 (s : State) : Host.Outcome State Fault Refusal :=
  s.runSingle ⟨.copy, 14, 5⟩

/-- `COPY_15_M5` (R230). -/
def execCopy15M5 (s : State) : Host.Outcome State Fault Refusal :=
  s.runSingle ⟨.copy, 15, 5⟩

/-- `COPY_16_M5` (R230). -/
def execCopy16M5 (s : State) : Host.Outcome State Fault Refusal :=
  s.runSingle ⟨.copy, 16, 5⟩

/-- `COPY_17_M5` (R230). -/
def execCopy17M5 (s : State) : Host.Outcome State Fault Refusal :=
  s.runSingle ⟨.copy, 17, 5⟩

/-- `COPY_18_M5` (R230). -/
def execCopy18M5 (s : State) : Host.Outcome State Fault Refusal :=
  s.runSingle ⟨.copy, 18, 5⟩

/-- `COPY_V_M6` (R230). -/
def execCopyVM6 (size : Nat) (s : State) : Host.Outcome State Fault Refusal :=
  s.runSingle ⟨.copy, size, 6⟩

/-- `COPY_4_M6` (R230). -/
def execCopy4M6 (s : State) : Host.Outcome State Fault Refusal :=
  s.runSingle ⟨.copy, 4, 6⟩

/-- `COPY_5_M6` (R230). -/
def execCopy5M6 (s : State) : Host.Outcome State Fault Refusal :=
  s.runSingle ⟨.copy, 5, 6⟩

/-- `COPY_6_M6` (R230). -/
def execCopy6M6 (s : State) : Host.Outcome State Fault Refusal :=
  s.runSingle ⟨.copy, 6, 6⟩

/-- `COPY_7_M6` (R230). -/
def execCopy7M6 (s : State) : Host.Outcome State Fault Refusal :=
  s.runSingle ⟨.copy, 7, 6⟩

/-- `COPY_8_M6` (R230). -/
def execCopy8M6 (s : State) : Host.Outcome State Fault Refusal :=
  s.runSingle ⟨.copy, 8, 6⟩

/-- `COPY_9_M6` (R230). -/
def execCopy9M6 (s : State) : Host.Outcome State Fault Refusal :=
  s.runSingle ⟨.copy, 9, 6⟩

/-- `COPY_10_M6` (R230). -/
def execCopy10M6 (s : State) : Host.Outcome State Fault Refusal :=
  s.runSingle ⟨.copy, 10, 6⟩

/-- `COPY_11_M6` (R230). -/
def execCopy11M6 (s : State) : Host.Outcome State Fault Refusal :=
  s.runSingle ⟨.copy, 11, 6⟩

/-- `COPY_12_M6` (R230). -/
def execCopy12M6 (s : State) : Host.Outcome State Fault Refusal :=
  s.runSingle ⟨.copy, 12, 6⟩

/-- `COPY_13_M6` (R230). -/
def execCopy13M6 (s : State) : Host.Outcome State Fault Refusal :=
  s.runSingle ⟨.copy, 13, 6⟩

/-- `COPY_14_M6` (R230). -/
def execCopy14M6 (s : State) : Host.Outcome State Fault Refusal :=
  s.runSingle ⟨.copy, 14, 6⟩

/-- `COPY_15_M6` (R230). -/
def execCopy15M6 (s : State) : Host.Outcome State Fault Refusal :=
  s.runSingle ⟨.copy, 15, 6⟩

/-- `COPY_16_M6` (R230). -/
def execCopy16M6 (s : State) : Host.Outcome State Fault Refusal :=
  s.runSingle ⟨.copy, 16, 6⟩

/-- `COPY_17_M6` (R230). -/
def execCopy17M6 (s : State) : Host.Outcome State Fault Refusal :=
  s.runSingle ⟨.copy, 17, 6⟩

/-- `COPY_18_M6` (R230). -/
def execCopy18M6 (s : State) : Host.Outcome State Fault Refusal :=
  s.runSingle ⟨.copy, 18, 6⟩

/-- `COPY_V_M7` (R230). -/
def execCopyVM7 (size : Nat) (s : State) : Host.Outcome State Fault Refusal :=
  s.runSingle ⟨.copy, size, 7⟩

/-- `COPY_4_M7` (R230). -/
def execCopy4M7 (s : State) : Host.Outcome State Fault Refusal :=
  s.runSingle ⟨.copy, 4, 7⟩

/-- `COPY_5_M7` (R230). -/
def execCopy5M7 (s : State) : Host.Outcome State Fault Refusal :=
  s.runSingle ⟨.copy, 5, 7⟩

/-- `COPY_6_M7` (R230). -/
def execCopy6M7 (s : State) : Host.Outcome State Fault Refusal :=
  s.runSingle ⟨.copy, 6, 7⟩

/-- `COPY_7_M7` (R230). -/
def execCopy7M7 (s : State) : Host.Outcome State Fault Refusal :=
  s.runSingle ⟨.copy, 7, 7⟩

/-- `COPY_8_M7` (R230). -/
def execCopy8M7 (s : State) : Host.Outcome State Fault Refusal :=
  s.runSingle ⟨.copy, 8, 7⟩

/-- `COPY_9_M7` (R230). -/
def execCopy9M7 (s : State) : Host.Outcome State Fault Refusal :=
  s.runSingle ⟨.copy, 9, 7⟩

/-- `COPY_10_M7` (R230). -/
def execCopy10M7 (s : State) : Host.Outcome State Fault Refusal :=
  s.runSingle ⟨.copy, 10, 7⟩

/-- `COPY_11_M7` (R230). -/
def execCopy11M7 (s : State) : Host.Outcome State Fault Refusal :=
  s.runSingle ⟨.copy, 11, 7⟩

/-- `COPY_12_M7` (R230). -/
def execCopy12M7 (s : State) : Host.Outcome State Fault Refusal :=
  s.runSingle ⟨.copy, 12, 7⟩

/-- `COPY_13_M7` (R230). -/
def execCopy13M7 (s : State) : Host.Outcome State Fault Refusal :=
  s.runSingle ⟨.copy, 13, 7⟩

/-- `COPY_14_M7` (R230). -/
def execCopy14M7 (s : State) : Host.Outcome State Fault Refusal :=
  s.runSingle ⟨.copy, 14, 7⟩

/-- `COPY_15_M7` (R230). -/
def execCopy15M7 (s : State) : Host.Outcome State Fault Refusal :=
  s.runSingle ⟨.copy, 15, 7⟩

/-- `COPY_16_M7` (R230). -/
def execCopy16M7 (s : State) : Host.Outcome State Fault Refusal :=
  s.runSingle ⟨.copy, 16, 7⟩

/-- `COPY_17_M7` (R230). -/
def execCopy17M7 (s : State) : Host.Outcome State Fault Refusal :=
  s.runSingle ⟨.copy, 17, 7⟩

/-- `COPY_18_M7` (R230). -/
def execCopy18M7 (s : State) : Host.Outcome State Fault Refusal :=
  s.runSingle ⟨.copy, 18, 7⟩

/-- `COPY_V_M8` (R230). -/
def execCopyVM8 (size : Nat) (s : State) : Host.Outcome State Fault Refusal :=
  s.runSingle ⟨.copy, size, 8⟩

/-- `COPY_4_M8` (R230). -/
def execCopy4M8 (s : State) : Host.Outcome State Fault Refusal :=
  s.runSingle ⟨.copy, 4, 8⟩

/-- `COPY_5_M8` (R230). -/
def execCopy5M8 (s : State) : Host.Outcome State Fault Refusal :=
  s.runSingle ⟨.copy, 5, 8⟩

/-- `COPY_6_M8` (R230). -/
def execCopy6M8 (s : State) : Host.Outcome State Fault Refusal :=
  s.runSingle ⟨.copy, 6, 8⟩

/-- `COPY_7_M8` (R230). -/
def execCopy7M8 (s : State) : Host.Outcome State Fault Refusal :=
  s.runSingle ⟨.copy, 7, 8⟩

/-- `COPY_8_M8` (R230). -/
def execCopy8M8 (s : State) : Host.Outcome State Fault Refusal :=
  s.runSingle ⟨.copy, 8, 8⟩

/-- `COPY_9_M8` (R230). -/
def execCopy9M8 (s : State) : Host.Outcome State Fault Refusal :=
  s.runSingle ⟨.copy, 9, 8⟩

/-- `COPY_10_M8` (R230). -/
def execCopy10M8 (s : State) : Host.Outcome State Fault Refusal :=
  s.runSingle ⟨.copy, 10, 8⟩

/-- `COPY_11_M8` (R230). -/
def execCopy11M8 (s : State) : Host.Outcome State Fault Refusal :=
  s.runSingle ⟨.copy, 11, 8⟩

/-- `COPY_12_M8` (R230). -/
def execCopy12M8 (s : State) : Host.Outcome State Fault Refusal :=
  s.runSingle ⟨.copy, 12, 8⟩

/-- `COPY_13_M8` (R230). -/
def execCopy13M8 (s : State) : Host.Outcome State Fault Refusal :=
  s.runSingle ⟨.copy, 13, 8⟩

/-- `COPY_14_M8` (R230). -/
def execCopy14M8 (s : State) : Host.Outcome State Fault Refusal :=
  s.runSingle ⟨.copy, 14, 8⟩

/-- `COPY_15_M8` (R230). -/
def execCopy15M8 (s : State) : Host.Outcome State Fault Refusal :=
  s.runSingle ⟨.copy, 15, 8⟩

/-- `COPY_16_M8` (R230). -/
def execCopy16M8 (s : State) : Host.Outcome State Fault Refusal :=
  s.runSingle ⟨.copy, 16, 8⟩

/-- `COPY_17_M8` (R230). -/
def execCopy17M8 (s : State) : Host.Outcome State Fault Refusal :=
  s.runSingle ⟨.copy, 17, 8⟩

/-- `COPY_18_M8` (R230). -/
def execCopy18M8 (s : State) : Host.Outcome State Fault Refusal :=
  s.runSingle ⟨.copy, 18, 8⟩

end Sys2Proof.Machine
end

