-- ==== Sys2Proof/Machine/Dispatch.lean ====
section
/-! DEFINITION. exec: one arm per instruction, each a call of its meaning (spec/49_body_decoder.md R228 to R231). -/

namespace Sys2Proof.Machine

def exec (i : Instr) (s : State) : Host.Outcome State Fault Refusal :=
  match i with
  | .runV size => Sys2Proof.Machine.execRunV size s
  | .addV size => Sys2Proof.Machine.execAddV size s
  | .add1 => Sys2Proof.Machine.execAdd1 s
  | .add2 => Sys2Proof.Machine.execAdd2 s
  | .add3 => Sys2Proof.Machine.execAdd3 s
  | .add4 => Sys2Proof.Machine.execAdd4 s
  | .add5 => Sys2Proof.Machine.execAdd5 s
  | .add6 => Sys2Proof.Machine.execAdd6 s
  | .add7 => Sys2Proof.Machine.execAdd7 s
  | .add8 => Sys2Proof.Machine.execAdd8 s
  | .add9 => Sys2Proof.Machine.execAdd9 s
  | .add10 => Sys2Proof.Machine.execAdd10 s
  | .add11 => Sys2Proof.Machine.execAdd11 s
  | .add12 => Sys2Proof.Machine.execAdd12 s
  | .add13 => Sys2Proof.Machine.execAdd13 s
  | .add14 => Sys2Proof.Machine.execAdd14 s
  | .add15 => Sys2Proof.Machine.execAdd15 s
  | .add16 => Sys2Proof.Machine.execAdd16 s
  | .add17 => Sys2Proof.Machine.execAdd17 s
  | .copyVM0 size => Sys2Proof.Machine.execCopyVM0 size s
  | .copy4M0 => Sys2Proof.Machine.execCopy4M0 s
  | .copy5M0 => Sys2Proof.Machine.execCopy5M0 s
  | .copy6M0 => Sys2Proof.Machine.execCopy6M0 s
  | .copy7M0 => Sys2Proof.Machine.execCopy7M0 s
  | .copy8M0 => Sys2Proof.Machine.execCopy8M0 s
  | .copy9M0 => Sys2Proof.Machine.execCopy9M0 s
  | .copy10M0 => Sys2Proof.Machine.execCopy10M0 s
  | .copy11M0 => Sys2Proof.Machine.execCopy11M0 s
  | .copy12M0 => Sys2Proof.Machine.execCopy12M0 s
  | .copy13M0 => Sys2Proof.Machine.execCopy13M0 s
  | .copy14M0 => Sys2Proof.Machine.execCopy14M0 s
  | .copy15M0 => Sys2Proof.Machine.execCopy15M0 s
  | .copy16M0 => Sys2Proof.Machine.execCopy16M0 s
  | .copy17M0 => Sys2Proof.Machine.execCopy17M0 s
  | .copy18M0 => Sys2Proof.Machine.execCopy18M0 s
  | .copyVM1 size => Sys2Proof.Machine.execCopyVM1 size s
  | .copy4M1 => Sys2Proof.Machine.execCopy4M1 s
  | .copy5M1 => Sys2Proof.Machine.execCopy5M1 s
  | .copy6M1 => Sys2Proof.Machine.execCopy6M1 s
  | .copy7M1 => Sys2Proof.Machine.execCopy7M1 s
  | .copy8M1 => Sys2Proof.Machine.execCopy8M1 s
  | .copy9M1 => Sys2Proof.Machine.execCopy9M1 s
  | .copy10M1 => Sys2Proof.Machine.execCopy10M1 s
  | .copy11M1 => Sys2Proof.Machine.execCopy11M1 s
  | .copy12M1 => Sys2Proof.Machine.execCopy12M1 s
  | .copy13M1 => Sys2Proof.Machine.execCopy13M1 s
  | .copy14M1 => Sys2Proof.Machine.execCopy14M1 s
  | .copy15M1 => Sys2Proof.Machine.execCopy15M1 s
  | .copy16M1 => Sys2Proof.Machine.execCopy16M1 s
  | .copy17M1 => Sys2Proof.Machine.execCopy17M1 s
  | .copy18M1 => Sys2Proof.Machine.execCopy18M1 s
  | .copyVM2 size => Sys2Proof.Machine.execCopyVM2 size s
  | .copy4M2 => Sys2Proof.Machine.execCopy4M2 s
  | .copy5M2 => Sys2Proof.Machine.execCopy5M2 s
  | .copy6M2 => Sys2Proof.Machine.execCopy6M2 s
  | .copy7M2 => Sys2Proof.Machine.execCopy7M2 s
  | .copy8M2 => Sys2Proof.Machine.execCopy8M2 s
  | .copy9M2 => Sys2Proof.Machine.execCopy9M2 s
  | .copy10M2 => Sys2Proof.Machine.execCopy10M2 s
  | .copy11M2 => Sys2Proof.Machine.execCopy11M2 s
  | .copy12M2 => Sys2Proof.Machine.execCopy12M2 s
  | .copy13M2 => Sys2Proof.Machine.execCopy13M2 s
  | .copy14M2 => Sys2Proof.Machine.execCopy14M2 s
  | .copy15M2 => Sys2Proof.Machine.execCopy15M2 s
  | .copy16M2 => Sys2Proof.Machine.execCopy16M2 s
  | .copy17M2 => Sys2Proof.Machine.execCopy17M2 s
  | .copy18M2 => Sys2Proof.Machine.execCopy18M2 s
  | .copyVM3 size => Sys2Proof.Machine.execCopyVM3 size s
  | .copy4M3 => Sys2Proof.Machine.execCopy4M3 s
  | .copy5M3 => Sys2Proof.Machine.execCopy5M3 s
  | .copy6M3 => Sys2Proof.Machine.execCopy6M3 s
  | .copy7M3 => Sys2Proof.Machine.execCopy7M3 s
  | .copy8M3 => Sys2Proof.Machine.execCopy8M3 s
  | .copy9M3 => Sys2Proof.Machine.execCopy9M3 s
  | .copy10M3 => Sys2Proof.Machine.execCopy10M3 s
  | .copy11M3 => Sys2Proof.Machine.execCopy11M3 s
  | .copy12M3 => Sys2Proof.Machine.execCopy12M3 s
  | .copy13M3 => Sys2Proof.Machine.execCopy13M3 s
  | .copy14M3 => Sys2Proof.Machine.execCopy14M3 s
  | .copy15M3 => Sys2Proof.Machine.execCopy15M3 s
  | .copy16M3 => Sys2Proof.Machine.execCopy16M3 s
  | .copy17M3 => Sys2Proof.Machine.execCopy17M3 s
  | .copy18M3 => Sys2Proof.Machine.execCopy18M3 s
  | .copyVM4 size => Sys2Proof.Machine.execCopyVM4 size s
  | .copy4M4 => Sys2Proof.Machine.execCopy4M4 s
  | .copy5M4 => Sys2Proof.Machine.execCopy5M4 s
  | .copy6M4 => Sys2Proof.Machine.execCopy6M4 s
  | .copy7M4 => Sys2Proof.Machine.execCopy7M4 s
  | .copy8M4 => Sys2Proof.Machine.execCopy8M4 s
  | .copy9M4 => Sys2Proof.Machine.execCopy9M4 s
  | .copy10M4 => Sys2Proof.Machine.execCopy10M4 s
  | .copy11M4 => Sys2Proof.Machine.execCopy11M4 s
  | .copy12M4 => Sys2Proof.Machine.execCopy12M4 s
  | .copy13M4 => Sys2Proof.Machine.execCopy13M4 s
  | .copy14M4 => Sys2Proof.Machine.execCopy14M4 s
  | .copy15M4 => Sys2Proof.Machine.execCopy15M4 s
  | .copy16M4 => Sys2Proof.Machine.execCopy16M4 s
  | .copy17M4 => Sys2Proof.Machine.execCopy17M4 s
  | .copy18M4 => Sys2Proof.Machine.execCopy18M4 s
  | .copyVM5 size => Sys2Proof.Machine.execCopyVM5 size s
  | .copy4M5 => Sys2Proof.Machine.execCopy4M5 s
  | .copy5M5 => Sys2Proof.Machine.execCopy5M5 s
  | .copy6M5 => Sys2Proof.Machine.execCopy6M5 s
  | .copy7M5 => Sys2Proof.Machine.execCopy7M5 s
  | .copy8M5 => Sys2Proof.Machine.execCopy8M5 s
  | .copy9M5 => Sys2Proof.Machine.execCopy9M5 s
  | .copy10M5 => Sys2Proof.Machine.execCopy10M5 s
  | .copy11M5 => Sys2Proof.Machine.execCopy11M5 s
  | .copy12M5 => Sys2Proof.Machine.execCopy12M5 s
  | .copy13M5 => Sys2Proof.Machine.execCopy13M5 s
  | .copy14M5 => Sys2Proof.Machine.execCopy14M5 s
  | .copy15M5 => Sys2Proof.Machine.execCopy15M5 s
  | .copy16M5 => Sys2Proof.Machine.execCopy16M5 s
  | .copy17M5 => Sys2Proof.Machine.execCopy17M5 s
  | .copy18M5 => Sys2Proof.Machine.execCopy18M5 s
  | .copyVM6 size => Sys2Proof.Machine.execCopyVM6 size s
  | .copy4M6 => Sys2Proof.Machine.execCopy4M6 s
  | .copy5M6 => Sys2Proof.Machine.execCopy5M6 s
  | .copy6M6 => Sys2Proof.Machine.execCopy6M6 s
  | .copy7M6 => Sys2Proof.Machine.execCopy7M6 s
  | .copy8M6 => Sys2Proof.Machine.execCopy8M6 s
  | .copy9M6 => Sys2Proof.Machine.execCopy9M6 s
  | .copy10M6 => Sys2Proof.Machine.execCopy10M6 s
  | .copy11M6 => Sys2Proof.Machine.execCopy11M6 s
  | .copy12M6 => Sys2Proof.Machine.execCopy12M6 s
  | .copy13M6 => Sys2Proof.Machine.execCopy13M6 s
  | .copy14M6 => Sys2Proof.Machine.execCopy14M6 s
  | .copy15M6 => Sys2Proof.Machine.execCopy15M6 s
  | .copy16M6 => Sys2Proof.Machine.execCopy16M6 s
  | .copy17M6 => Sys2Proof.Machine.execCopy17M6 s
  | .copy18M6 => Sys2Proof.Machine.execCopy18M6 s
  | .copyVM7 size => Sys2Proof.Machine.execCopyVM7 size s
  | .copy4M7 => Sys2Proof.Machine.execCopy4M7 s
  | .copy5M7 => Sys2Proof.Machine.execCopy5M7 s
  | .copy6M7 => Sys2Proof.Machine.execCopy6M7 s
  | .copy7M7 => Sys2Proof.Machine.execCopy7M7 s
  | .copy8M7 => Sys2Proof.Machine.execCopy8M7 s
  | .copy9M7 => Sys2Proof.Machine.execCopy9M7 s
  | .copy10M7 => Sys2Proof.Machine.execCopy10M7 s
  | .copy11M7 => Sys2Proof.Machine.execCopy11M7 s
  | .copy12M7 => Sys2Proof.Machine.execCopy12M7 s
  | .copy13M7 => Sys2Proof.Machine.execCopy13M7 s
  | .copy14M7 => Sys2Proof.Machine.execCopy14M7 s
  | .copy15M7 => Sys2Proof.Machine.execCopy15M7 s
  | .copy16M7 => Sys2Proof.Machine.execCopy16M7 s
  | .copy17M7 => Sys2Proof.Machine.execCopy17M7 s
  | .copy18M7 => Sys2Proof.Machine.execCopy18M7 s
  | .copyVM8 size => Sys2Proof.Machine.execCopyVM8 size s
  | .copy4M8 => Sys2Proof.Machine.execCopy4M8 s
  | .copy5M8 => Sys2Proof.Machine.execCopy5M8 s
  | .copy6M8 => Sys2Proof.Machine.execCopy6M8 s
  | .copy7M8 => Sys2Proof.Machine.execCopy7M8 s
  | .copy8M8 => Sys2Proof.Machine.execCopy8M8 s
  | .copy9M8 => Sys2Proof.Machine.execCopy9M8 s
  | .copy10M8 => Sys2Proof.Machine.execCopy10M8 s
  | .copy11M8 => Sys2Proof.Machine.execCopy11M8 s
  | .copy12M8 => Sys2Proof.Machine.execCopy12M8 s
  | .copy13M8 => Sys2Proof.Machine.execCopy13M8 s
  | .copy14M8 => Sys2Proof.Machine.execCopy14M8 s
  | .copy15M8 => Sys2Proof.Machine.execCopy15M8 s
  | .copy16M8 => Sys2Proof.Machine.execCopy16M8 s
  | .copy17M8 => Sys2Proof.Machine.execCopy17M8 s
  | .copy18M8 => Sys2Proof.Machine.execCopy18M8 s
  | .add1Copy4M0 => Sys2Proof.Machine.execAdd1Copy4M0 s
  | .add1Copy5M0 => Sys2Proof.Machine.execAdd1Copy5M0 s
  | .add1Copy6M0 => Sys2Proof.Machine.execAdd1Copy6M0 s
  | .add2Copy4M0 => Sys2Proof.Machine.execAdd2Copy4M0 s
  | .add2Copy5M0 => Sys2Proof.Machine.execAdd2Copy5M0 s
  | .add2Copy6M0 => Sys2Proof.Machine.execAdd2Copy6M0 s
  | .add3Copy4M0 => Sys2Proof.Machine.execAdd3Copy4M0 s
  | .add3Copy5M0 => Sys2Proof.Machine.execAdd3Copy5M0 s
  | .add3Copy6M0 => Sys2Proof.Machine.execAdd3Copy6M0 s
  | .add4Copy4M0 => Sys2Proof.Machine.execAdd4Copy4M0 s
  | .add4Copy5M0 => Sys2Proof.Machine.execAdd4Copy5M0 s
  | .add4Copy6M0 => Sys2Proof.Machine.execAdd4Copy6M0 s
  | .add1Copy4M1 => Sys2Proof.Machine.execAdd1Copy4M1 s
  | .add1Copy5M1 => Sys2Proof.Machine.execAdd1Copy5M1 s
  | .add1Copy6M1 => Sys2Proof.Machine.execAdd1Copy6M1 s
  | .add2Copy4M1 => Sys2Proof.Machine.execAdd2Copy4M1 s
  | .add2Copy5M1 => Sys2Proof.Machine.execAdd2Copy5M1 s
  | .add2Copy6M1 => Sys2Proof.Machine.execAdd2Copy6M1 s
  | .add3Copy4M1 => Sys2Proof.Machine.execAdd3Copy4M1 s
  | .add3Copy5M1 => Sys2Proof.Machine.execAdd3Copy5M1 s
  | .add3Copy6M1 => Sys2Proof.Machine.execAdd3Copy6M1 s
  | .add4Copy4M1 => Sys2Proof.Machine.execAdd4Copy4M1 s
  | .add4Copy5M1 => Sys2Proof.Machine.execAdd4Copy5M1 s
  | .add4Copy6M1 => Sys2Proof.Machine.execAdd4Copy6M1 s
  | .add1Copy4M2 => Sys2Proof.Machine.execAdd1Copy4M2 s
  | .add1Copy5M2 => Sys2Proof.Machine.execAdd1Copy5M2 s
  | .add1Copy6M2 => Sys2Proof.Machine.execAdd1Copy6M2 s
  | .add2Copy4M2 => Sys2Proof.Machine.execAdd2Copy4M2 s
  | .add2Copy5M2 => Sys2Proof.Machine.execAdd2Copy5M2 s
  | .add2Copy6M2 => Sys2Proof.Machine.execAdd2Copy6M2 s
  | .add3Copy4M2 => Sys2Proof.Machine.execAdd3Copy4M2 s
  | .add3Copy5M2 => Sys2Proof.Machine.execAdd3Copy5M2 s
  | .add3Copy6M2 => Sys2Proof.Machine.execAdd3Copy6M2 s
  | .add4Copy4M2 => Sys2Proof.Machine.execAdd4Copy4M2 s
  | .add4Copy5M2 => Sys2Proof.Machine.execAdd4Copy5M2 s
  | .add4Copy6M2 => Sys2Proof.Machine.execAdd4Copy6M2 s
  | .add1Copy4M3 => Sys2Proof.Machine.execAdd1Copy4M3 s
  | .add1Copy5M3 => Sys2Proof.Machine.execAdd1Copy5M3 s
  | .add1Copy6M3 => Sys2Proof.Machine.execAdd1Copy6M3 s
  | .add2Copy4M3 => Sys2Proof.Machine.execAdd2Copy4M3 s
  | .add2Copy5M3 => Sys2Proof.Machine.execAdd2Copy5M3 s
  | .add2Copy6M3 => Sys2Proof.Machine.execAdd2Copy6M3 s
  | .add3Copy4M3 => Sys2Proof.Machine.execAdd3Copy4M3 s
  | .add3Copy5M3 => Sys2Proof.Machine.execAdd3Copy5M3 s
  | .add3Copy6M3 => Sys2Proof.Machine.execAdd3Copy6M3 s
  | .add4Copy4M3 => Sys2Proof.Machine.execAdd4Copy4M3 s
  | .add4Copy5M3 => Sys2Proof.Machine.execAdd4Copy5M3 s
  | .add4Copy6M3 => Sys2Proof.Machine.execAdd4Copy6M3 s
  | .add1Copy4M4 => Sys2Proof.Machine.execAdd1Copy4M4 s
  | .add1Copy5M4 => Sys2Proof.Machine.execAdd1Copy5M4 s
  | .add1Copy6M4 => Sys2Proof.Machine.execAdd1Copy6M4 s
  | .add2Copy4M4 => Sys2Proof.Machine.execAdd2Copy4M4 s
  | .add2Copy5M4 => Sys2Proof.Machine.execAdd2Copy5M4 s
  | .add2Copy6M4 => Sys2Proof.Machine.execAdd2Copy6M4 s
  | .add3Copy4M4 => Sys2Proof.Machine.execAdd3Copy4M4 s
  | .add3Copy5M4 => Sys2Proof.Machine.execAdd3Copy5M4 s
  | .add3Copy6M4 => Sys2Proof.Machine.execAdd3Copy6M4 s
  | .add4Copy4M4 => Sys2Proof.Machine.execAdd4Copy4M4 s
  | .add4Copy5M4 => Sys2Proof.Machine.execAdd4Copy5M4 s
  | .add4Copy6M4 => Sys2Proof.Machine.execAdd4Copy6M4 s
  | .add1Copy4M5 => Sys2Proof.Machine.execAdd1Copy4M5 s
  | .add1Copy5M5 => Sys2Proof.Machine.execAdd1Copy5M5 s
  | .add1Copy6M5 => Sys2Proof.Machine.execAdd1Copy6M5 s
  | .add2Copy4M5 => Sys2Proof.Machine.execAdd2Copy4M5 s
  | .add2Copy5M5 => Sys2Proof.Machine.execAdd2Copy5M5 s
  | .add2Copy6M5 => Sys2Proof.Machine.execAdd2Copy6M5 s
  | .add3Copy4M5 => Sys2Proof.Machine.execAdd3Copy4M5 s
  | .add3Copy5M5 => Sys2Proof.Machine.execAdd3Copy5M5 s
  | .add3Copy6M5 => Sys2Proof.Machine.execAdd3Copy6M5 s
  | .add4Copy4M5 => Sys2Proof.Machine.execAdd4Copy4M5 s
  | .add4Copy5M5 => Sys2Proof.Machine.execAdd4Copy5M5 s
  | .add4Copy6M5 => Sys2Proof.Machine.execAdd4Copy6M5 s
  | .add1Copy4M6 => Sys2Proof.Machine.execAdd1Copy4M6 s
  | .add2Copy4M6 => Sys2Proof.Machine.execAdd2Copy4M6 s
  | .add3Copy4M6 => Sys2Proof.Machine.execAdd3Copy4M6 s
  | .add4Copy4M6 => Sys2Proof.Machine.execAdd4Copy4M6 s
  | .add1Copy4M7 => Sys2Proof.Machine.execAdd1Copy4M7 s
  | .add2Copy4M7 => Sys2Proof.Machine.execAdd2Copy4M7 s
  | .add3Copy4M7 => Sys2Proof.Machine.execAdd3Copy4M7 s
  | .add4Copy4M7 => Sys2Proof.Machine.execAdd4Copy4M7 s
  | .add1Copy4M8 => Sys2Proof.Machine.execAdd1Copy4M8 s
  | .add2Copy4M8 => Sys2Proof.Machine.execAdd2Copy4M8 s
  | .add3Copy4M8 => Sys2Proof.Machine.execAdd3Copy4M8 s
  | .add4Copy4M8 => Sys2Proof.Machine.execAdd4Copy4M8 s
  | .copy4M0Add1 => Sys2Proof.Machine.execCopy4M0Add1 s
  | .copy4M1Add1 => Sys2Proof.Machine.execCopy4M1Add1 s
  | .copy4M2Add1 => Sys2Proof.Machine.execCopy4M2Add1 s
  | .copy4M3Add1 => Sys2Proof.Machine.execCopy4M3Add1 s
  | .copy4M4Add1 => Sys2Proof.Machine.execCopy4M4Add1 s
  | .copy4M5Add1 => Sys2Proof.Machine.execCopy4M5Add1 s
  | .copy4M6Add1 => Sys2Proof.Machine.execCopy4M6Add1 s
  | .copy4M7Add1 => Sys2Proof.Machine.execCopy4M7Add1 s
  | .copy4M8Add1 => Sys2Proof.Machine.execCopy4M8Add1 s

end Sys2Proof.Machine
end

