-- ==== Sys2Proof/Machine/WindowDecoder.lean ====
section
/-! DEFINITION. The stream header parser and the window decoder WD (spec/48_window_decoder.md R210 to R223). -/

namespace Sys2Proof.Machine

/-- What parsing a field of `DELTA_IN` gives: its value and the bytes after it, `EOD`, or `ERROR(c)`. -/
inductive Scan (α : Type) where
  | ok (a : α) (rest : Bytes)
  | eod
  | err (c : Cause)
  deriving DecidableEq, Repr

/-- One field after another, in wire order (R210, R212). -/
def Scan.bind {α β : Type} (x : Scan α) (f : α → Bytes → Scan β) : Scan β :=
  match x with
  | .ok a rest => f a rest
  | .eod => .eod
  | .err c => .err c

/-- `Need(1)` and one byte (R210). -/
def scanByte : Bytes → Scan Byte
  | [] => .eod
  | b :: bs => .ok b bs

/-- `Var(max)` (R212). -/
def scanVar (max : Nat) (bs : Bytes) : Scan Nat :=
  match varintDecode max bs with
  | .ok v rest => .ok v rest
  | .eod => .eod
  | .overflow => .err .varintOverflow

/-- `Need(n)` and `n` bytes (R210, R212). -/
def scanBytes (n : Nat) (bs : Bytes) : Scan Bytes :=
  if bs.length < n then .eod else .ok (bs.take n) (bs.drop n)

/-- A test of a rule that raises `ERROR(c)` where it fails. -/
def scanCheck (bad : Bool) (c : Cause) (bs : Bytes) : Scan Unit :=
  if bad then .err c else .ok () bs

/-- R210: the magic bytes, each examined as soon as it is available. -/
def scanMagic : Bytes → Bytes → Scan Unit
  | [], bs => .ok () bs
  | _ :: _, [] => .eod
  | m :: ms, b :: bs => if b = m then scanMagic ms bs else .err .badMagic

/-- R210: the optional application header, a length and that many bytes, skipped. -/
def scanAppHeader (indicator : Byte) (bs : Bytes) : Scan Unit :=
  if indicator &&& 0x04 = 0 then .ok () bs
  else
    (scanVar varintMax bs).bind fun n bs =>
    (scanBytes n bs).bind fun _ bs => .ok () bs

/-- `SD_HEADER` on the available bytes (R210): the version byte. -/
def scanFileHeader (bs : Bytes) : Scan Byte :=
  (scanMagic [0xD6, 0xC3, 0xC4] bs).bind fun _ bs =>
  (scanByte bs).bind fun v bs =>
  (scanCheck (v != 0x00 && v != 0x53) .badVersion bs).bind fun _ bs =>
  (scanByte bs).bind fun hi bs =>
  (scanCheck (hi &&& 0x01 != 0) .secondaryCompression bs).bind fun _ bs =>
  (scanCheck (hi &&& 0x02 != 0) .customTableUnsupported bs).bind fun _ bs =>
  (scanCheck (hi &&& 0xF8 != 0) .reservedBits bs).bind fun _ bs =>
  (scanAppHeader hi bs).bind fun _ bs => .ok v bs

/-- R212 fields 2 and 3: the source segment `(length, position)`, checked against the dictionary (R214). -/
def scanSegment (dictLen : Nat) (wi : Byte) (bs : Bytes) : Scan (Nat × Nat) :=
  if wi &&& 0x01 = 0 then .ok (0, 0) bs
  else
    (scanVar varintMax bs).bind fun sl bs =>
    (scanVar varintMax bs).bind fun sp bs =>
    (scanCheck (decide (dictLen < sp + sl)) .sourceSegmentRange bs).bind fun _ bs => .ok (sl, sp) bs

/-- Four raw big-endian bytes as a number (R212; spec/20_memory.md R53). -/
def readBigEndian (bs : Bytes) : Nat :=
  bs.foldl (fun v b => v * 256 + b.toNat) 0

/-- R212 field 10 (R219): `none` without a checksum; a varint in a version `0x53` stream, four raw bytes otherwise. -/
def scanChecksum (version wi : Byte) (bs : Bytes) : Scan (Option Nat) :=
  if wi &&& 0x04 = 0 then .ok none bs
  else if version = 0x53 then (scanVar cksumMax bs).bind fun ck bs => .ok (some ck) bs
  else (scanBytes 4 bs).bind fun raw bs => .ok (some (readBigEndian raw)) bs

/-- R221: the mode a window's three section lengths select. -/
def windowMode (ld li la : Nat) : WinMode :=
  if ld = 0 ∧ la = 0 ∧ li ≠ 0 then .interleaved else .standard

/-- The three section buffers of a standard window (R212). -/
structure Sections where
  data : Bytes
  inst : Bytes
  addr : Bytes
  deriving DecidableEq, Repr

/-- R212, R221: a standard window's sections, all three at once; none for an interleaved window. -/
def scanSections (mode : WinMode) (ld li la : Nat) (bs : Bytes) : Scan (Option Sections) :=
  match mode with
  | .interleaved => .ok none bs
  | .standard =>
    (scanBytes (ld + li + la) bs).bind fun s bs =>
      .ok (some ⟨s.take ld, (s.drop ld).take li, s.drop (ld + li)⟩) bs

/-- What `WD_PARSE` reads: the header, the checksum field if present, the sections of a standard window. -/
structure ParsedWindow where
  header   : WindowHeader
  checksum : Option Nat
  sections : Option Sections
  deriving DecidableEq, Repr

/-- `WD_PARSE` on the available bytes (R212), field by field in wire order. -/
def scanWindow (cfg : Cfg) (dictLen : Nat) (version : Byte) (bs : Bytes) : Scan ParsedWindow :=
  (scanByte bs).bind fun wi bs =>
  (scanCheck (wi &&& 0x02 != 0) .targetWindowUnsupported bs).bind fun _ bs =>
  (scanCheck (wi &&& 0xF8 != 0) .reservedBits bs).bind fun _ bs =>
  (scanSegment dictLen wi bs).bind fun seg bs =>
  (scanVar varintMax bs).bind fun dl h0 =>
  (scanVar varintMax h0).bind fun tl bs =>
  (scanCheck (decide (cfg.maxWindowSize < tl)) .windowTooLarge bs).bind fun _ bs =>
  (scanByte bs).bind fun di bs =>
  (scanCheck (di != 0) .secondaryCompression bs).bind fun _ bs =>
  (scanVar varintMax bs).bind fun ld bs =>
  (scanVar varintMax bs).bind fun li bs =>
  (scanVar varintMax bs).bind fun la bs =>
  (scanChecksum version wi bs).bind fun ck bs =>
  (scanCheck (h0.length - bs.length + ld + li + la != dl) .lengthInvariant bs).bind fun _ bs =>
  (scanSections (windowMode ld li la) ld li la bs).bind fun sections bs =>
    .ok
      { header :=
          { winInd := wi, srcSegLen := seg.1, srcSegPos := seg.2, deltaLen := dl, targetLen := tl, deltaInd := di,
            lenData := ld, lenInst := li, lenAddr := la, hasChecksum := ck.isSome, checksum := ck.getD 0,
            mode := windowMode ld li la }
        checksum := ck
        sections := sections } bs

/-- The bytes of `DELTA_IN` from `inPos` to the limit. -/
def Decoder.unread (d : Decoder) : Bytes :=
  d.deltaIn.bytes.drop d.inPos

/-- `SD_HEADER` (R210), once per session (spec/70_reset_and_hazards.md R283). -/
def Decoder.sdHeader (d : Decoder) : Act Decoder Unit :=
  Act.requires d.streamVersion.isNone d <|
    match scanFileHeader d.unread with
    | .eod => .eod d
    | .err c => .err d c
    | .ok v rest => .ok { d with streamVersion := some v, inPos := d.inPos + (d.unread.length - rest.length) } ()

/-- R212's commit: the descriptor (its checksum register kept where the window has none, log 13), the sections of a standard window, `inPos`. -/
def Decoder.commitWindow (d : Decoder) (w : ParsedWindow) (rest : Bytes) : Decoder :=
  let d1 := { d with
    win := { w.header with checksum := w.checksum.getD d.win.checksum }
    inPos := d.inPos + (d.unread.length - rest.length)
    stage := .parsed }
  match w.sections with
  | none => d1
  | some s =>
    { d1 with
      secData := Memory.ofBytes s.data
      secInst := Memory.ofBytes s.inst
      secAddr := Memory.ofBytes s.addr }

/-- `WD_PARSE` (R212, R213): after the file header, with no window in progress (R283). -/
def Decoder.wdParse (d : Decoder) : Act Decoder Unit :=
  match d.streamVersion, d.stage with
  | some v, .closed =>
    match scanWindow d.cfg d.dict.len v d.unread with
    | .eod => .eod d
    | .err c => .err d c
    | .ok w rest => .ok (d.commitWindow w rest) ()
  | _, _ => .err d .seqOrder

end Sys2Proof.Machine
end

