-- ==== Sys2Proof/Machine/Sequencer.lean ====
section
/-! DEFINITION. The decode operations in progress, one piece a step: fetching and running an instruction, completing a window, parsing headers (spec/49_body_decoder.md R227, R235, R237; log 4). -/

namespace Sys2Proof.Machine

/-- The cursor after an instruction whose bytes end where `rest` begins: moving past the opcode and its explicit size (spec/10_state.md R23). -/
def Decoder.advanceTo (d : Decoder) (rest : Bytes) : Decoder :=
  { d with ipos := d.instructions.posAfter rest }

/-- R227, R235: the instruction stream ran out before the target length was reached. -/
def Decoder.starved (d : Decoder) : Act Decoder Unit :=
  match (d.instructions.ranOut d : Act Decoder Unit) with
  | .eod d1 => d1.needMore
  | x => x

/-- One pass of the loop through `ID_NEXT` (R227, R235): a pending second half, or an instruction of a custom table. -/
def Decoder.nextPass (d : Decoder) : Act Decoder Unit :=
  match d.idNext with
  | .ok d1 t => d1.issue t
  | .eod d1 => d1.needMore
  | .err d1 c => .err d1 c
  | .bad f => .bad f

/-- The opcode at `ipos` of the default table, decoded and run (R74, R202, R228 to R231). -/
def State.fetchAndRun (s : State) : Host.Outcome State Fault Refusal :=
  match decode s.dec.instructions.bytes with
  | .instr i rest => exec i { s with dec := s.dec.advanceTo rest }
  | .short => s.settle s.dec.starved
  | .sizeOverflow => s.settle (.err s.dec.overflowed .varintOverflow)
  | .undefinedOpcode => .refused .undefinedOpcode

/-- One pass of the instruction loop (R227, R235): the waiting instruction, else the pending second half, else the opcode at `ipos`. -/
def State.instructionPass (s : State) : Host.Outcome State Fault Refusal :=
  match s.dec.waiting with
  | some t => s.settle (s.dec.retry t)
  | none =>
    match s.dec.pendingSecond, s.dec.cfg.codeTable with
    | none, .standard => s.fetchAndRun
    | _, _ => s.settle s.dec.nextPass

/-- The window is complete (R233): `BD_RUN` and `BD_STEP` return `Ok`; `DECODE_CALL` goes on with the next window (R237). -/
def State.windowDone (s : State) (d : Decoder) : State :=
  match d.call with
  | some (.decodeCall _) => { s with dec := { d with phase := .window } }
  | _ => { s with dec := { d with call := none }, last := some (.ok .unit) }

/-- Window completion as a step answers it. -/
def State.completeWindow (s : State) : Host.Outcome State Fault Refusal :=
  match s.dec.complete with
  | .ok d _ => .next (s.windowDone d)
  | .eod d => .next (State.suspend { s with dec := d })
  | .err d c => .next (State.raise { s with dec := d } .decode c)
  | .bad f => .fault f

/-- One piece of a body in progress (R227, R235): an instruction, or the completion once the target length is reached. -/
def State.bodyPass (s : State) : Host.Outcome State Fault Refusal :=
  if s.dec.stage = .started then
    if s.dec.outputFull then s.completeWindow else s.instructionPass
  else .next (s.raise .decode .seqOrder)

/-- Entering a body (R237): an interleaved one takes the bytes that have arrived (R235). -/
def Decoder.enterBody (d : Decoder) : Decoder :=
  match d.win.mode with
  | .standard => d
  | .interleaved => d.intake

/-- R237, phase `Window`: `WD_PARSE`, then `BD_START`, then phase `Body`. -/
def Decoder.openWindow (d : Decoder) : Act Decoder Unit :=
  d.wdParse.bind fun d1 _ =>
  d1.bdStart.bind fun d2 _ => .ok (Decoder.enterBody { d2 with phase := .body }) ()

/-- R237: `(Success, written - w0)` at a window boundary. -/
def State.callSuccess (s : State) (w0 : Nat) : State :=
  { s with dec := { s.dec with call := none }, last := some (.call .success (s.dec.written - w0)) }

/-- One pass of `DECODE_CALL`'s loop (R237). -/
def State.callPass (s : State) (w0 : Nat) : Host.Outcome State Fault Refusal :=
  match s.dec.phase with
  | .header => s.settle (s.dec.sdHeader.bind fun d _ => .ok { d with phase := .window } ())
  | .window =>
    if s.dec.inPos = s.dec.deltaIn.len then .next (s.callSuccess w0) else s.settle s.dec.openWindow
  | .body => s.bodyPass

/-- One piece of the decode operation in progress. -/
def State.advance (s : State) (c : Call) : Host.Outcome State Fault Refusal :=
  match c with
  | .bdRun => s.bodyPass
  | .bdStep => s.bodyPass
  | .decodeCall w0 => s.callPass w0

end Sys2Proof.Machine
end

