-- ==== Sys2Proof/Machine/HostOps.lean ====
section
/-! DEFINITION. The operations a host issues, with their order conditions and the failure latch (spec/30_encoding.md R95; spec/10_state.md R31; spec/60_exceptions.md R257; spec/70_reset_and_hazards.md R282, R283). -/

namespace Sys2Proof.Machine

/-- The session an operation is issued to (R20). The operations of VI, which has no state and no session, and of AC, which both kinds of session own, name theirs: any of them may be issued to either (DESIGN CHOICE, log 32). -/
def HostOp.side : HostOp → Side
  | .newEncoder _ _ => .encode
  | .newDecoder _ _ => .decode
  | .lendTarget _ => .encode
  | .supplyDelta _ => .decode
  | .varintLen side _ => side
  | .varintEnc side _ _ => side
  | .varintDec side _ _ _ _ => side
  | .acReset side => side
  | .acUpdate side _ => side
  | .acEncode side _ _ => side
  | .acDecode side _ _ _ _ _ => side
  | .rhInit => .encode
  | .rhHash _ _ => .encode
  | .rhRoll _ _ _ => .encode
  | .bhBuild => .encode
  | .bhFind _ _ _ _ => .encode
  | .cpParse _ => .encode
  | .encodeStream _ => .encode
  | .imBuild => .encode
  | .imEncode _ _ _ => .encode
  | .wsInit _ => .encode
  | .wsAdd _ => .encode
  | .wsRun _ _ => .encode
  | .wsCopy _ _ => .encode
  | .wsOutput _ => .encode
  | .wsStreamHeader => .encode
  | .idInit _ _ _ => .decode
  | .idNext => .decode
  | .sdHeader => .decode
  | .wdParse => .decode
  | .bdStart => .decode
  | .bdRun => .decode
  | .bdStep => .decode
  | .decodeCall _ => .decode

/-- Whether an operation creates a session, which a failed session does not prevent (R259). -/
def HostOp.creates : HostOp → Bool
  | .newEncoder _ _ => true
  | .newDecoder _ _ => true
  | _ => false

/-- What a failed session answers (R257): `ERROR(failed)`, or `(Error, 0)` to a `DECODE_CALL`. -/
def HostOp.failedReply (o : HostOp) (c : Cause) : Reply :=
  match o with
  | .decodeCall _ => .call .error 0
  | _ => .error c

/-- The bound a varint operation is given (R7). -/
def boundOf (b : VarintBound) : Nat :=
  match b with
  | .varint => varintMax
  | .cksum => cksumMax

/-- An outcome that changes no session: `Ok(v)`. -/
def State.answer (s : State) (v : Value) : Host.Outcome State Fault Refusal :=
  .next { s with last := some (.ok v) }

/-- The address cache of a session and its configuration. -/
def State.cacheOf (s : State) (side : Side) : Cfg × AddrCache :=
  match side with
  | .encode => (s.enc.cfg, s.enc.ws.cache)
  | .decode => (s.dec.cfg, s.dec.cache)

/-- Writing the address cache of a session. -/
def State.setCache (s : State) (side : Side) (c : AddrCache) : State :=
  match side with
  | .encode => { s with enc := { s.enc with ws := { s.enc.ws with cache := c } } }
  | .decode => { s with dec := { s.dec with cache := c } }

/-- A byte past the end of an operand buffer: a free value (log 10). -/
def State.freeByte (s : State) (side : Side) (i : Nat) : Byte :=
  match side with
  | .encode => Config.freeByteEncode s.enc.frees i
  | .decode => Config.freeByteDecode s.dec.frees i

/-- The state after a free value was drawn in a session (log 10). -/
def State.drawn (s : State) (side : Side) : State :=
  match side with
  | .encode => { s with enc := { s.enc with frees := s.enc.frees + 1 } }
  | .decode => { s with dec := { s.dec with frees := s.dec.frees + 1 } }

/-- The bytes of an operand buffer from `pos` to `limit`. Those a limit past the buffer names are free values, since the rule states no result there (spec/40_varint.md R102, DESIGN CHOICE, log 10). -/
def State.operandBytes (s : State) (side : Side) (buf : Bytes) (pos limit : Nat) : Bytes :=
  ((buf ++ (List.range (limit - buf.length)).map (s.freeByte side)).take limit).drop pos

/-- The state after an operand buffer was read up to `limit`. -/
def State.afterOperand (s : State) (side : Side) (buf : Bytes) (limit : Nat) : State :=
  if buf.length < limit then s.drawn side else s

/-- `VARINT_ENC(v, max)` (spec/40_varint.md R101). -/
def State.opVarintEnc (s : State) (side : Side) (v max : Nat) : Host.Outcome State Fault Refusal :=
  if max < v then .next (s.raise side .encRange) else s.answer (.bytes (varintEncode v))

/-- What `VARINT_DEC` answers for what it read from `bs`, the bytes from `pos` on (spec/40_varint.md R102). -/
def State.answerVarint (s : State) (side : Side) (bs : Bytes) (pos : Nat) (r : VarintRead) : Host.Outcome State Fault Refusal :=
  match r with
  | .ok v rest => s.answer (.varint v (pos + (bs.length - rest.length)))
  | .eod => .next { s with last := some .eod }
  | .overflow => .next (s.raise side .varintOverflow)

/-- `VARINT_DEC(buf, pos, limit, max)` (spec/40_varint.md R102). -/
def State.opVarintDec (s : State) (side : Side) (buf : Bytes) (pos limit max : Nat) : Host.Outcome State Fault Refusal :=
  (s.afterOperand side buf limit).answerVarint side (s.operandBytes side buf pos limit) pos
    (varintDecode max (s.operandBytes side buf pos limit))

/-- `AC_ENCODE(a, here)` (spec/41_address_cache.md R113). -/
def State.opAcEncode (s : State) (side : Side) (a here : Nat) : Host.Outcome State Fault Refusal :=
  match (s.cacheOf side).2.encode (s.cacheOf side).1 a here with
  | none => .next (s.raise side .encRange)
  | some (f, c) => (s.setCache side c).answer (.addrField f.mode f.value f.isByte)

/-- What `AC_DECODE` answers for what it read from `bs`, the bytes from `pos` on (spec/41_address_cache.md R114). -/
def State.answerAddress (s : State) (side : Side) (bs : Bytes) (pos : Nat) (r : AddrRead) : Host.Outcome State Fault Refusal :=
  match r with
  | .ok a rest c => (s.setCache side c).answer (.address a (pos + (bs.length - rest.length)))
  | .eod => .next { s with last := some .eod }
  | .err c => .next (s.raise side c)

/-- `AC_DECODE(mode, here, buf, pos, limit)` (spec/41_address_cache.md R114). -/
def State.opAcDecode (s : State) (side : Side) (mode here : Nat) (buf : Bytes) (pos limit : Nat) : Host.Outcome State Fault Refusal :=
  (s.afterOperand side buf limit).answerAddress side (s.operandBytes side buf pos limit) pos
    ((s.cacheOf side).2.decode (s.cacheOf side).1 mode here (s.operandBytes side buf pos limit))

/-- The space `RH_HASH` reads (spec/42_rolling_hash.md R127). -/
def Encoder.hashSpace (e : Encoder) (buf : HashSpace) : Memory :=
  match buf with
  | .dict => e.dict
  | .tgtIn => e.tgtIn

/-- `RH_HASH(buf, off)` (spec/42_rolling_hash.md R127). For a window past the space the rule states no result: the hash is a free value below `2^23` (DESIGN CHOICE, log 10). -/
def State.opRhHash (s : State) (buf : HashSpace) (off : Nat) : Host.Outcome State Fault Refusal :=
  if (s.enc.hashSpace buf).len < off + s.enc.cfg.blockSize then
    (s.drawn .encode).answer (.num (Config.freeHash s.enc.frees % hashMod))
  else s.answer (.num (rhHash s.enc.cfg.hashMult ((s.enc.hashSpace buf).slice off s.enc.cfg.blockSize)))

/-- R141's condition on the target range: `tstart <= tpos` and `tpos + B <= tend <= len(TGT_IN)`. -/
def Encoder.rangeStated (e : Encoder) (tpos tstart tend : Nat) : Bool :=
  decide (tstart ≤ tpos ∧ tpos + e.cfg.blockSize ≤ tend ∧ tend ≤ e.tgtIn.len)

/-- The head of the chain a query walks (R141): an empty bucket, or an index of no blocks, has none. -/
def BlockIndex.head (x : BlockIndex) (h : Nat) : Option Nat :=
  x.hashTable.getD (h % x.tableSize) none

/-- A free match (log 10). -/
def freeFound (draw : Nat) : Option Match :=
  (Config.freeMatch draw).map fun m => ⟨m.1, m.2.1, m.2.2⟩

/-- `BH_FIND(h, tpos, tstart, tend)` (spec/43_block_hash.md R141), always `Ok` once the index is built. Outside the condition on the target range the rule states the answer only for an empty bucket, `NONE`; otherwise the answer is a free value (DESIGN CHOICE, log 10). -/
def State.opBhFind (s : State) (h tpos tstart tend : Nat) : Host.Outcome State Fault Refusal :=
  if s.enc.index.built = false then .next (s.raise .encode .seqOrder)
  else if s.enc.rangeStated tpos tstart tend || (s.enc.index.head h).isNone then
    s.answer (.found (bhFind s.enc.cfg s.enc.index s.enc.dict.bytes s.enc.tgtIn.bytes h tpos tstart tend))
  else (s.drawn .encode).answer (.found (freeFound s.enc.frees))

/-- An operation that ends with `Ok` and no value. -/
def Act.unit {σ : Type} (x : Act σ Unit) : Act σ Value :=
  x.bind fun s _ => .ok s .unit

/-- A serializer operation that needs the maps and `WS_INIT` (spec/70_reset_and_hazards.md R282). -/
def State.opSerialize (s : State) (x : Act Serializer Unit) : Host.Outcome State Fault Refusal :=
  s.settleEncode (Act.requires (s.enc.map.built && s.enc.ws.ready) s.enc (s.enc.liftWs x).unit)

/-- `ENCODE_STREAM`'s value is `DELTA_OUT` (spec/44_chunk_parse.md R153). -/
def Encoder.streamValue (x : Act Encoder Unit) : Act Encoder Value :=
  x.bind fun e _ => .ok e (.bytes e.deltaOut.bytes)

/-- `BD_RUN` and `BD_STEP` begin (R227, R235): in a started body of their window mode (R283, log 11). -/
def State.opBody (s : State) (mode : WinMode) (c : Call) : Host.Outcome State Fault Refusal :=
  if s.dec.stage = .started ∧ s.dec.win.mode = mode then
    .next { s with dec := { s.dec.enterBody with call := some c } }
  else .next (s.raise .decode .seqOrder)

/-- `DECODE_CALL(bytes)` begins (R237): the bytes join `DELTA_IN`; a body in progress takes what has arrived. -/
def Decoder.beginCall (d : Decoder) (bytes : Bytes) : Decoder :=
  let d1 := { d with deltaIn := d.deltaIn.append bytes, call := some (.decodeCall d.written) }
  match d.phase, d.stage with
  | .body, .started => d1.enterBody
  | _, _ => d1

/-- One operation of a session that has not failed, in the numbered order of spec/70_reset_and_hazards.md R282 and R283 (log 11, log 12). Where R282 calls a unit built once and gives a repeated `RH_INIT`, `BH_BUILD`, `IM_BUILD` or `WS_INIT` no outcome, its own rule runs again (DESIGN CHOICE, log 27); a second `CP_PARSE` before `WS_OUTPUT` adds to the same window (DESIGN CHOICE, log 28). Lending a chunk takes one of any length, 0 and above `BUFFER_CHUNK_SIZE` included, to which spec/20_memory.md R50 gives no outcome (DESIGN CHOICE, log 29). Other operands outside what a rule says they are run its pseudocode (DEDUCED, log 31). -/
def State.runOp (s : State) (o : HostOp) : Host.Outcome State Fault Refusal :=
  match o with
  | .newEncoder cfg dict => .next (s.newEncoder cfg dict)
  | .newDecoder cfg dict => .next (s.newDecoder cfg dict)
  | .lendTarget chunk => (State.answer { s with enc := { s.enc with tgtIn := Memory.ofBytes chunk } } .unit)
  | .supplyDelta bytes => (State.answer { s with dec := { s.dec with deltaIn := s.dec.deltaIn.append bytes } } .unit)
  | .varintLen _ v => s.answer (.num (varintLen v))
  | .varintEnc side v max => s.opVarintEnc side v (boundOf max)
  | .varintDec side buf pos limit max => s.opVarintDec side buf pos limit (boundOf max)
  | .acReset side => (s.setCache side (acReset (s.cacheOf side).1)).answer .unit
  | .acUpdate side a => (s.setCache side ((s.cacheOf side).2.update (s.cacheOf side).1 a)).answer .unit
  | .acEncode side a here => s.opAcEncode side a here
  | .acDecode side mode here buf pos limit => s.opAcDecode side mode here buf pos limit
  | .rhInit => State.answer { s with enc := s.enc.initHash } .unit
  | .rhHash buf off => s.opRhHash buf off
  | .rhRoll h out new =>
    s.settleEncode (Act.requires s.enc.hashReady s.enc
      (.ok s.enc (.num (rhRoll s.enc.removeTable s.enc.cfg.hashMult h out new))))
  | .bhBuild => s.settleEncode (Act.requires s.enc.hashReady s.enc s.enc.buildIndex.unit)
  | .bhFind h tpos tstart tend => s.opBhFind h tpos tstart tend
  | .cpParse chunk => s.settleEncode (Act.requires s.enc.parseReady s.enc (cpParse s.enc chunk).unit)
  | .encodeStream target => s.settleEncode (Encoder.streamValue (encodeStream s.enc target))
  | .imBuild => State.answer { s with enc := s.enc.buildMap } .unit
  | .imEncode inst size mode =>
    s.settleEncode (Act.requires s.enc.map.built s.enc (s.enc.liftWs (imEncode s.enc.map s.enc.ws ⟨inst, size, mode⟩)).unit)
  | .wsInit dictLen =>
    s.settleEncode (Act.requires (s.enc.hashReady && s.enc.index.built) s.enc
      (s.enc.liftWs (wsInit s.enc.cfg s.enc.ws dictLen)).unit)
  | .wsAdd bytes => s.opSerialize (wsAdd s.enc.cfg s.enc.map s.enc.ws bytes)
  | .wsRun size byte => s.opSerialize (wsRun s.enc.cfg s.enc.map s.enc.ws size byte)
  | .wsCopy offset size => s.opSerialize (wsCopy s.enc.cfg s.enc.map s.enc.ws offset size)
  | .wsOutput checksum =>
    s.settleEncode (Act.requires (s.enc.ws.ready && s.enc.headerDone) s.enc (wsOutput s.enc checksum).unit)
  | .wsStreamHeader => s.settleEncode (wsStreamHeader s.enc).unit
  | .idInit buf first last => State.answer { s with dec := s.dec.idInit buf first last } .unit
  | .idNext =>
    s.settleDecode (Act.requires (s.dec.stage == .started) s.dec
      (s.dec.idNext.bind fun d t => .ok d (.instruction t)))
  | .sdHeader => s.settleDecode s.dec.sdHeader.unit
  | .wdParse => s.settleDecode s.dec.wdParse.unit
  | .bdStart => s.settleDecode s.dec.bdStart.unit
  | .bdRun => s.opBody .standard .bdRun
  | .bdStep => s.opBody .interleaved .bdStep
  | .decodeCall bytes => .next { s with dec := s.dec.beginCall bytes }

/-- One operation the host has issued (R257): a failed session answers it at once, reading and writing nothing. -/
def State.perform (s : State) (o : HostOp) : Host.Outcome State Fault Refusal :=
  match s.failedOf o.side, o.creates with
  | some c, false => .next { s with last := some (o.failedReply c) }
  | _, _ => s.runOp o

/-- What one step does (log 4, log 5): a piece of the decode operation in progress; else the oldest operation issued; else nothing, the machine is idle (R30). -/
def State.stepOnce (s : State) : Host.Outcome State Fault Refusal :=
  match s.dec.call with
  | some c => s.advance c
  | none =>
    match s.ops with
    | [] => .next s
    | o :: rest => State.perform { s with ops := rest } o

end Sys2Proof.Machine
end

