-- ==== Sys2Proof/Machine/Step.lean ====
section
/-! DEFINITION. One step of the machine, and placing an instruction where the next step fetches it. -/

namespace Sys2Proof.Machine

/-- One step: a piece of the decode operation in progress (one VCDIFF instruction of a body), else the host's oldest operation, else idle. -/
def step (s : State) : Host.Outcome State Fault Refusal :=
  s.stepOnce

/-- `s` with an instruction of the opcode table placed where the next step fetches it: in `secInst` of a standard window that a `BD_RUN` is executing, at `ipos` 0, under the default code table (log 15). The window stands in the middle of its body: 32 bytes decoded, literals and address fields to read. -/
def State.withFetchWord (s : State) (nbits w : Nat) : State :=
  { s with
    dec := { s.dec with
      cfg := { s.dec.cfg with codeTable := .standard }
      secInst := Memory.ofBytes (tableWordBytes nbits w)
      secData := Memory.ofBytes (List.replicate 32 0x41)
      secAddr := Memory.ofBytes [0x01]
      decoded := Memory.ofBytes (List.replicate 32 0x00)
      ibuf := .secInst
      ipos := 0
      iend := (tableWordBytes nbits w).length
      pendingSecond := none
      pendingInst := none
      win := { s.dec.win with
        srcSegLen := 0, srcSegPos := 0, targetLen := 1024, lenData := 32
        lenInst := (tableWordBytes nbits w).length, lenAddr := 1, mode := .standard }
      dpos := 0
      apos := 0
      failed := none
      stage := .started
      call := some .bdRun } }

end Sys2Proof.Machine
end

