-- ==== Sys2Proof/Safety.lean ====
section
/-! DEFINITION. What counts as a good state and a safe run, in the terms the statements use. -/

namespace Sys2Proof.Machine

/-! ### Memories in canonical form (log 9) -/

/-- Every memory of an encode session is in canonical form. -/
def Encoder.memoryWf (e : Encoder) : Prop :=
  e.dict.wf = true ∧ e.tgtIn.wf = true ∧ e.ws.dataBuf.wf = true ∧ e.ws.instBuf.wf = true ∧ e.ws.addrBuf.wf = true
    ∧ e.deltaOut.wf = true

/-- Every memory of a decode session is in canonical form. -/
def Decoder.memoryWf (d : Decoder) : Prop :=
  d.dict.wf = true ∧ d.deltaIn.wf = true ∧ d.secData.wf = true ∧ d.secInst.wf = true ∧ d.secAddr.wf = true
    ∧ d.carry.wf = true ∧ d.decoded.wf = true ∧ d.tgtOut.wf = true

/-- Every memory of the machine is in canonical form. -/
def State.memoryWf (s : State) : Prop :=
  s.enc.memoryWf ∧ s.dec.memoryWf

/-! ### The shapes the rules guarantee -/

/-- An address cache has the sizes its configuration gives it, and its ring position is a slot (spec/10_state.md R21, R22). -/
def AddrCache.wf (cfg : Cfg) (c : AddrCache) : Prop :=
  c.near.length = cfg.nearSize ∧ c.same.length = cfg.sameSize * 256 ∧ c.nextSlot < cfg.nearSize

/-- The window in progress copies from a part of the dictionary that exists (spec/48_window_decoder.md R214), has produced no more than it declares, and holds no waiting instruction that would (spec/49_body_decoder.md R232, R235). -/
def Decoder.windowFits (d : Decoder) : Prop :=
  (d.stage ≠ .closed → d.win.srcSegPos + d.win.srcSegLen ≤ d.dict.len) ∧
  (d.stage = .started → d.decoded.len ≤ d.win.targetLen) ∧
  (d.stage = .started → d.win.mode = .interleaved → ∀ t, d.pendingInst = some t → d.decoded.len + t.size ≤ d.win.targetLen)

/-- The invariant of a decode session that has not failed: cache shape, window, and `written` the length of `TGT_OUT` (spec/10_state.md R21). -/
def Decoder.sound (d : Decoder) : Prop :=
  d.cache.wf d.cfg ∧ d.windowFits ∧ d.written = d.tgtOut.len

/-- The invariant of an encode session that has not failed: cache shape and the ranges of the serializer's registers (spec/10_state.md R21). -/
def Encoder.sound (e : Encoder) : Prop :=
  e.ws.cache.wf e.cfg ∧ (∀ i, e.ws.lastOpIdx = some i → i < e.ws.instBuf.len) ∧ e.ws.targetLen ≤ varintMax
    ∧ e.ws.dictLen ≤ varintMax

/-- The sessions that have not failed are sound. -/
def State.sound (s : State) : Prop :=
  (s.enc.failed = none → s.enc.sound) ∧ (s.dec.failed = none → s.dec.sound)

/-! ### A body in progress -/

/-- An instruction may run: the session has not failed and its window's body is started (spec/60_exceptions.md R257; spec/70_reset_and_hazards.md R283). -/
def Decoder.running (d : Decoder) : Prop :=
  d.failed = none ∧ d.stage = .started

/-- The buffers hold every byte below the limits they are read to. -/
def Decoder.buffersFit (d : Decoder) : Prop :=
  d.literals.lim ≤ d.literals.space.len ∧ d.addresses.lim ≤ d.addresses.space.len

/-- Every address of the `COPY` address space names a byte that exists (spec/20_memory.md R51). -/
def Decoder.copySpaceFits (d : Decoder) : Prop :=
  d.dict.wf = true ∧ d.decoded.wf = true ∧ d.win.srcSegPos + d.win.srcSegLen ≤ d.dict.len

/-- `bs` are the bytes that R230's loop appends from address `a` on: byte `k` is that of address `a + k`, read once the bytes before it are appended. -/
def Decoder.copied (d : Decoder) (a : Nat) (bs : Bytes) : Prop :=
  ∀ k b, bs[k]? = some b →
    (if a + k < d.win.srcSegLen then d.dict.read (d.win.srcSegPos + (a + k))
      else (d.decoded.append (bs.take k)).read (a + k - d.win.srcSegLen)) = some b

/-- The registers of a decode session that no VCDIFF instruction writes are the same in both. -/
def Decoder.frameOf (d d1 : Decoder) : Prop :=
  d1.cfg = d.cfg ∧ d1.dict = d.dict ∧ d1.deltaIn = d.deltaIn ∧ d1.secData = d.secData ∧ d1.secInst = d.secInst
    ∧ d1.secAddr = d.secAddr ∧ d1.carry = d.carry ∧ d1.tgtOut = d.tgtOut ∧ d1.ibuf = d.ibuf ∧ d1.iend = d.iend
    ∧ d1.win = d.win ∧ d1.remaining = d.remaining ∧ d1.streamVersion = d.streamVersion ∧ d1.inPos = d.inPos
    ∧ d1.phase = d.phase ∧ d1.written = d.written ∧ d1.stage = d.stage ∧ d1.frees = d.frees

/-- An instruction is recorded as pending while it executes, in an interleaved window only (spec/49_body_decoder.md R235). -/
def Decoder.recorded (d : Decoder) (t : Triple) : Decoder :=
  match d.win.mode with
  | .standard => d
  | .interleaved => { d with pendingInst := some t }

/-- The session while the first instruction of `i` runs: a compound opcode stands in `pendingSecond` (spec/47_instruction_decoder.md R202; spec/49_body_decoder.md R231). -/
def Decoder.underway (d : Decoder) (i : Instr) : Decoder :=
  match i.second with
  | none => d
  | some _ => { d with pendingSecond := some (BitVec.ofNat 8 i.opcode) }

/-- The machine is about to fetch an opcode of the default table: a decode operation is in the body of a window whose target length is not reached, and nothing is pending. -/
def State.fetching (s : State) : Prop :=
  (s.dec.call = some .bdRun ∨ s.dec.call = some .bdStep ∨ ∃ w0, s.dec.call = some (.decodeCall w0) ∧ s.dec.phase = .body)
    ∧ s.dec.stage = .started ∧ s.dec.outputFull = false ∧ s.dec.waiting = none ∧ s.dec.pendingSecond = none
    ∧ s.dec.cfg.codeTable = .standard

/-- `(mode, value)` is one of the candidates R113 compares: `SELF`, `HERE`, or a near slot that is not above the address. -/
def AddrCache.candidate (c : AddrCache) (a here mode value : Nat) : Prop :=
  (mode = 0 ∧ value = a) ∨ (mode = 1 ∧ value = here - a)
    ∨ ∃ i n, c.near[i]? = some n ∧ n ≤ a ∧ mode = 2 + i ∧ value = a - n

/-! ### Sequences of addresses (spec/41_address_cache.md R115) -/

/-- `AC_ENCODE` for each `(address, here)` in order: the fields written and the cache after them. -/
def encodeAddresses (cfg : Cfg) : AddrCache → List (Nat × Nat) → Option (List AddrField × AddrCache)
  | c, [] => some ([], c)
  | c, (a, here) :: more =>
    match c.encode cfg a here with
    | none => none
    | some (f, c1) =>
      match encodeAddresses cfg c1 more with
      | none => none
      | some (fs, c2) => some (f :: fs, c2)

/-- `AC_DECODE` for each field with the same `here`, in order, each from its own bytes: the addresses and the cache after them. -/
def decodeAddresses (cfg : Cfg) : AddrCache → List (AddrField × Nat) → Option (List Nat × AddrCache)
  | c, [] => some ([], c)
  | c, (f, here) :: more =>
    match c.decode cfg f.mode here f.bytes with
    | .ok a [] c1 =>
      match decodeAddresses cfg c1 more with
      | none => none
      | some (as, c2) => some (a :: as, c2)
    | _ => none

/-! ### Whole-machine rules -/

/-- The next step creates a session of that side (spec/70_reset_and_hazards.md R280). -/
def State.creating (s : State) (side : Side) : Prop :=
  s.dec.call = none ∧ ∃ o rest, s.ops = o :: rest ∧ o.creates = true ∧ o.side = side

/-- Whether an outcome reports an error (spec/00_scope.md R13). -/
def Reply.isError : Reply → Bool
  | .ok _ => false
  | .eod => false
  | .error _ => true
  | .cfgErr _ => true
  | .call .success _ => false
  | .call .endOfData _ => false
  | .call .error _ => true

/-! ### The chains of the block-hash index (spec/43_block_hash.md R137) -/

/-- The blocks of a chain in link order, at most `fuel` of them. -/
def chainFrom (next : List (Option Nat)) : Nat → Option Nat → List Nat
  | 0, _ => []
  | _ + 1, none => []
  | fuel + 1, some b => b :: chainFrom next fuel (next.getD b none)

/-- The blocks of the dictionary whose hash falls in bucket `j`, ascending. -/
def bucketBlocks (cfg : Cfg) (dict : Bytes) (tableSize j : Nat) : List Nat :=
  (List.range (dict.length / cfg.blockSize)).filter fun b =>
    rhHash cfg.hashMult (blockBytes cfg.blockSize dict b) % tableSize == j

/-! ### Sequences of instructions (spec/45_code_table_and_instruction_map.md R169) -/

/-- `IM_ENCODE` for each triple in order. -/
def encodeAll (map : InstrMap) : Serializer → List Triple → Act Serializer Unit
  | ws, [] => .ok ws ()
  | ws, t :: ts => (imEncode map ws t).bind fun ws1 _ => encodeAll map ws1 ts

/-- `ID_NEXT`, `n` times, each returning `Ok`: the instructions delivered and the session after them. -/
def fetchAll : Nat → Decoder → Option (List Triple × Decoder)
  | 0, d => some ([], d)
  | n + 1, d =>
    match d.idNext with
    | .ok d1 t =>
      match fetchAll n d1 with
      | some (ts, d2) => some (t :: ts, d2)
      | none => none
    | _ => none

end Sys2Proof.Machine
end

