-- ==== Sys2Proof/Certificates/Slice0/Obligations.lean ====
section
/-! DEFINITION. The statements for the provers, unit by unit: encoding, the varint, the address cache, the hashes, the code table's maps, the serializer and parser, the window decoder, the instructions, and the rules of the whole machine. -/

open Sys2Proof Sys2Proof.Machine

/-! ### Decoding and encoding instructions -/

/-- spec/30_encoding.md R74, R80: words written out from the table's formulas decode to the instructions they stand for. -/
def Obligations.DecodesSpecWords : Prop :=
  decode [0x00, 0x82, 0x2C] = .instr (.runV 300) [] ∧
  decode [0x01, 0x14, 0x41] = .instr (.addV 20) [0x41] ∧
  decode [0x12] = .instr .add17 [] ∧
  decode [0x13, 0x7F] = .instr (.copyVM0 127) [] ∧
  decode [0x7C] = .instr .copy12M6 [] ∧
  decode [0xA6] = .instr .add2Copy4M0 [] ∧
  decode [0xF6] = .instr .add4Copy4M8 [] ∧
  decode [0xFD] = .instr .copy4M6Add1 []

/-- spec/30_encoding.md R74, R75, R79: every well-formed instruction, followed by any bytes, decodes to itself and leaves those bytes. -/
def Obligations.DecodeOfEncode : Prop :=
  ∀ (i : Instr) (rest : Bytes), i.wellFormed = true → decode (encode i ++ rest) = .instr i rest

/-- spec/30_encoding.md R75, R79: a decoded instruction is well-formed, its first byte is its opcode, and one of an inline size is that one byte. -/
def Obligations.DecodedInstruction : Prop :=
  ∀ (bs : Bytes) (i : Instr) (rest : Bytes), decode bs = .instr i rest →
    i.wellFormed = true ∧
    ∃ sizeBytes, bs = BitVec.ofNat 8 i.opcode :: (sizeBytes ++ rest) ∧ (i.explicitSize = none ↔ sizeBytes = [])

/-- spec/47_instruction_decoder.md R202, R203: under the default table, decoding the bytes from `ipos` on says what `ID_NEXT` does. -/
def Obligations.FetchIsIdNext : Prop :=
  ∀ d : Decoder, d.cfg.codeTable = .standard → d.pendingSecond = none →
    d.instructions.bytes.length = d.iend - d.ipos →
    (∀ i rest, decode d.instructions.bytes = .instr i rest →
      d.idNext = .ok { d with
        ipos := d.ipos + (d.instructions.bytes.length - rest.length)
        pendingSecond := i.second.map fun _ => BitVec.ofNat 8 i.opcode } i.first) ∧
    (decode d.instructions.bytes = .short → d.idNext = .eod d) ∧
    (decode d.instructions.bytes = .sizeOverflow → d.idNext = .err d.overflowed .varintOverflow)

/-- Log 6: when the bytes at `ipos` decode to `i`, a step in a body is `exec i` with `ipos` moved past those bytes, and nothing else around it. -/
def Obligations.StepRunsDecodedInstruction : Prop :=
  ∀ (s : State) (i : Instr) (rest : Bytes), s.fetching → decode s.dec.instructions.bytes = .instr i rest →
    i.wellFormed = true →
    step s = exec i { s with dec := { s.dec with
      ipos := s.dec.ipos + (s.dec.instructions.bytes.length - rest.length) } }

/-! ### The varint -/

/-- spec/40_varint.md R100 to R102, and the law the spec draws from them (R103). -/
def Obligations.VarintRoundTrip : Prop :=
  ∀ (max v : Nat) (rest : Bytes), v ≤ max →
    (varintEncode v).length = varintLen v ∧
    (∀ n, varintLen v ≤ n →
      varintDecode max ((varintEncode v ++ rest).take n) = .ok v (rest.take (n - varintLen v))) ∧
    (∀ n, n < varintLen v → varintDecode max ((varintEncode v ++ rest).take n) = .eod) ∧
    (∀ w, varintEncode v <+: varintEncode w → v = w)

/-- spec/30_encoding.md R71. -/
def Obligations.VarintMinimal : Prop :=
  ∀ v : Nat,
    1 ≤ (varintEncode v).length ∧ v < 128 ^ (varintEncode v).length ∧
    (1 < (varintEncode v).length → 128 ^ ((varintEncode v).length - 1) ≤ v) ∧
    (∀ i b, (varintEncode v)[i]? = some b → (128 ≤ b.toNat ↔ i + 1 < (varintEncode v).length)) ∧
    (varintEncode v).foldl (fun r b => r * 128 + b.toNat % 128) 0 = v

/-- spec/40_varint.md R102, R104: a decoded value is within its bound, and the bytes read are a nonempty beginning of the input. -/
def Obligations.VarintDecodedBound : Prop :=
  ∀ (max v : Nat) (bs rest : Bytes), max % 128 = 127 → varintDecode max bs = .ok v rest →
    v ≤ max ∧ ∃ used, bs = used ++ rest ∧ used ≠ [] ∧
      used.foldl (fun r b => r * 128 + b.toNat % 128) 0 = v

/-! ### The address cache -/

/-- spec/41_address_cache.md R113. That a host may issue `AC_ENCODE` to either session is the model's choice (log 32). -/
def Obligations.EncodeAddressChoice : Prop :=
  ∀ (cfg : Cfg) (c : AddrCache) (a here : Nat),
    (here ≤ a → c.encode cfg a here = none ∧
      ∀ (s : State) (side : Side), s.cacheOf side = (cfg, c) → s.opAcEncode side a here = .next (s.raise side .encRange)) ∧
    (a < here → c.same.getD (a % (cfg.sameSize * 256)) 0 = a →
      c.encode cfg a here = some
        (⟨2 + cfg.nearSize + a % (cfg.sameSize * 256) / 256, a % (cfg.sameSize * 256) % 256, true⟩, c.update cfg a)) ∧
    (a < here → c.same.getD (a % (cfg.sameSize * 256)) 0 ≠ a →
      ∃ mode value, c.encode cfg a here = some (⟨mode, value, false⟩, c.update cfg a) ∧
        c.candidate a here mode value ∧
        ∀ m v, c.candidate a here m v → value < v ∨ (value = v ∧ mode ≤ m))

/-- spec/41_address_cache.md R111, R113, R114, and what the spec draws from them (R116). -/
def Obligations.AddressZeroAfterReset : Prop :=
  ∀ (cfg : Cfg) (a here : Nat), 1 ≤ cfg.sameSize → a < here →
    (∀ c : AddrCache, c.same.getD (a % (cfg.sameSize * 256)) 0 = a → (c.field cfg a here).isByte = true) ∧
    (((acReset cfg).field cfg a here).isByte = true ↔ a = 0) ∧
    (a = 0 → (acReset cfg).encode cfg a here = some (⟨2 + cfg.nearSize, 0, true⟩, (acReset cfg).update cfg 0)) ∧
    (∀ rest, (acReset cfg).decode cfg (2 + cfg.nearSize) here (0x00 :: rest) = .ok 0 rest ((acReset cfg).update cfg 0))

/-- spec/41_address_cache.md R111 to R114, and the agreement the spec draws from them (R115): for every sequence of addresses, each below its `here`, whose values `VARINT_ENC(value, VARINT_MAX)` accepts. -/
def Obligations.CachesAgree : Prop :=
  ∀ (cfg : Cfg) (copies : List (Nat × Nat)), 1 ≤ cfg.sameSize → (∀ p ∈ copies, p.1 < p.2) →
    ∃ fields c, encodeAddresses cfg (acReset cfg) copies = some (fields, c) ∧
      ((∀ f ∈ fields, f.isByte = false → f.value ≤ varintMax) →
        decodeAddresses cfg (acReset cfg) (fields.zip (copies.map Prod.snd)) = some (copies.map Prod.fst, c))

/-- spec/41_address_cache.md R112, R114; spec/20_memory.md R58: a decoded address is below `here`, its mode is one of the modes, the cache is updated with it once, and a `SAME` field is one byte. -/
def Obligations.DecodedAddress : Prop :=
  ∀ (cfg : Cfg) (c c1 : AddrCache) (mode here a : Nat) (bs rest : Bytes),
    c.decode cfg mode here bs = .ok a rest c1 →
    a < here ∧ mode < 2 + cfg.nearSize + cfg.sameSize ∧
    c1.near = c.near.set c.nextSlot a ∧ c1.nextSlot = (c.nextSlot + 1) % cfg.nearSize ∧
    c1.same = c.same.set (a % (cfg.sameSize * 256)) a ∧
    ∃ field, bs = field ++ rest ∧ field ≠ [] ∧ (2 + cfg.nearSize ≤ mode → field.length = 1)

/-! ### The rolling hash and the block-hash index -/

/-- spec/42_rolling_hash.md R125. -/
def Obligations.HashIsPolynomial : Prop :=
  ∀ (c : Nat) (bs : Bytes),
    rhHash c bs = (∑ i ∈ Finset.range bs.length, c ^ (bs.length - 1 - i) * (bs.getD i 0).toNat) % 2 ^ 23 ∧
    rhHash c bs < 2 ^ 23

/-- spec/42_rolling_hash.md R129. -/
def Obligations.RollEqualsRehash : Prop :=
  ∀ (c blockSize off : Nat) (buf : Bytes), 1 ≤ blockSize → off + blockSize + 1 ≤ buf.length →
    rhRoll (rhInit blockSize c) c (rhHash c ((buf.drop off).take blockSize)) (buf.getD off 0)
        (buf.getD (off + blockSize) 0)
      = rhHash c ((buf.drop (off + 1)).take blockSize)

/-- spec/43_block_hash.md R136: the smallest power of two that is enough, or none within the bound. -/
def Obligations.TableSizeIsSmallest : Prop :=
  ∀ maxLog2 dictLen : Nat,
    (∀ t, tableSizeFor maxLog2 dictLen = some t ↔
      ∃ k, k ≤ maxLog2 ∧ t = 2 ^ k ∧ dictLen / 4 + 1 ≤ t ∧ ∀ j, j < k → 2 ^ j < dictLen / 4 + 1) ∧
    (tableSizeFor maxLog2 dictLen = none ↔ 2 ^ maxLog2 < dictLen / 4 + 1)

/-- spec/43_block_hash.md R137; spec/70_reset_and_hazards.md R287: after the build the chain of every bucket lists exactly its blocks, ascending, and ends. -/
def Obligations.ChainsListBlocks : Prop :=
  ∀ (cfg : Cfg) (dict : Bytes) (x : BlockIndex), bhBuild cfg dict = some x →
    x.dictLen = dict.length ∧ x.numBlocks = dict.length / cfg.blockSize ∧
    (∀ j, j < x.tableSize →
      chainFrom x.nextBlock (x.numBlocks + 1) (x.hashTable.getD j none) = bucketBlocks cfg dict x.tableSize j ∧
      ∀ f, x.hashTable.getD j none = some f →
        x.lastBlock.getD f none = (bucketBlocks cfg dict x.tableSize j).getLast?) ∧
    (∀ b n, x.nextBlock.getD b none = some n → b < n)

/-- spec/43_block_hash.md R138 to R141, and the guarantees the spec draws from them (R143), whatever the index and the hash. -/
def Obligations.FoundMatchIsReal : Prop :=
  ∀ (cfg : Cfg) (x : BlockIndex) (dict tgt : Bytes) (h tpos tstart tend : Nat) (m : Match),
    1 ≤ cfg.blockSize → tstart ≤ tpos → tpos + cfg.blockSize ≤ tend → tend ≤ tgt.length →
    bhFind cfg x dict tgt h tpos tstart tend = some m →
    (∀ i, i < m.size → dict[m.srcOff + i]? = tgt[m.tgtOff + i]?) ∧
    cfg.blockSize ≤ m.size ∧ m.srcOff + m.size ≤ dict.length ∧
    tstart ≤ m.tgtOff ∧ m.tgtOff ≤ tpos ∧ tpos + cfg.blockSize ≤ m.tgtOff + m.size ∧ m.tgtOff + m.size ≤ tend ∧
    (∃ b, m.srcOff ≤ b * cfg.blockSize ∧ tpos - m.tgtOff = b * cfg.blockSize - m.srcOff
      ∧ (b + 1) * cfg.blockSize ≤ m.srcOff + m.size) ∧
    (m.srcOff = 0 ∨ m.tgtOff = tstart ∨ dict[m.srcOff - 1]? ≠ tgt[m.tgtOff - 1]?) ∧
    (m.srcOff + m.size = dict.length ∨ m.tgtOff + m.size = tend ∨ dict[m.srcOff + m.size]? ≠ tgt[m.tgtOff + m.size]?)

/-! ### The instruction map -/

/-- spec/45_code_table_and_instruction_map.md R163. -/
def Obligations.FirstMapKeepsLowest : Prop :=
  ∀ (t : CodeTable) (k : Triple),
    mapLookup k (imBuild t).first =
      ((List.range 256).find? fun op =>
        decide ((t.entry (BitVec.ofNat 8 op)).firstTriple.inst ≠ .noop
          ∧ (t.entry (BitVec.ofNat 8 op)).secondTriple.inst = .noop
          ∧ (t.entry (BitVec.ofNat 8 op)).firstTriple = k)).map (BitVec.ofNat 8)

/-- spec/45_code_table_and_instruction_map.md R164. -/
def Obligations.SecondMapKeepsLowest : Prop :=
  ∀ (t : CodeTable) (f : Byte) (u : Triple),
    mapLookup (f, u) (imBuild t).second =
      ((List.range 256).find? fun op =>
        decide ((t.entry (BitVec.ofNat 8 op)).firstTriple.inst ≠ .noop
          ∧ (t.entry (BitVec.ofNat 8 op)).secondTriple.inst ≠ .noop
          ∧ mapLookup (t.entry (BitVec.ofNat 8 op)).firstTriple (imBuild t).first = some f
          ∧ (t.entry (BitVec.ofNat 8 op)).secondTriple = u)).map (BitVec.ofNat 8)

/-- spec/45_code_table_and_instruction_map.md R166: with the default table no instruction lacks an opcode. -/
def Obligations.DefaultTableEncodesAll : Prop :=
  ∀ (ws : Serializer) (t : Triple), 1 ≤ t.size → t.size ≤ varintMax →
    (t.inst = .add ∧ t.mode = 0 ∨ t.inst = .run ∧ t.mode = 0 ∨ t.inst = .copy ∧ t.mode < 9) →
    ∃ ws1, imEncode (imBuild .standard) ws t = .ok ws1 ()

/-- spec/45_code_table_and_instruction_map.md R166, R167; spec/20_memory.md R61: an instruction either rewrites the one opcode byte at `lastOpIdx` and ends the lookahead, or appends an opcode byte that becomes the lookahead. -/
def Obligations.FusionLookahead : Prop :=
  ∀ (map : InstrMap) (ws ws1 : Serializer) (t : Triple), imEncode map ws t = .ok ws1 () →
    ws1.dataBuf = ws.dataBuf ∧ ws1.addrBuf = ws.addrBuf ∧ ws1.targetLen = ws.targetLen ∧ ws1.dictLen = ws.dictLen ∧
    ws1.cache = ws.cache ∧ ws1.ready = ws.ready ∧
    ((∃ i prev fused, ws.lastOpIdx = some i ∧ ws.instBuf.read i = some prev
        ∧ mapLookup (prev, t) map.second = some fused ∧ ws1.lastOpIdx = none
        ∧ ws1.instBuf.len = ws.instBuf.len ∧ ws1.instBuf.read i = some fused
        ∧ ∀ j, j ≠ i → ws1.instBuf.read j = ws.instBuf.read j) ∨
      (∃ op, mapLookup t map.first = some op
        ∧ ws1.lastOpIdx = some ws.instBuf.len ∧ ws1.instBuf = ws.instBuf.append [op]) ∨
      (∃ op, mapLookup ⟨t.inst, 0, t.mode⟩ map.first = some op
        ∧ ws1.lastOpIdx = some ws.instBuf.len ∧ ws1.instBuf = ws.instBuf.append (op :: varintEncode t.size)))

/-- spec/45_code_table_and_instruction_map.md R163 to R166; spec/47_instruction_decoder.md R202, and the agreement the spec draws from them (R169), for every code table: `ID_NEXT` gives back the instructions the mapper wrote, in order, and consumes exactly their bytes. -/
def Obligations.MapperAndDecoderAgree : Prop :=
  ∀ (t : CodeTable) (ws ws1 : Serializer) (ts : List Triple) (d : Decoder),
    ws.instBuf = [] → ws.lastOpIdx = none → encodeAll (imBuild t) ws ts = .ok ws1 () →
    d.cfg.codeTable = t → d.pendingSecond = none → d.instructions.bytes = ws1.instBuf.bytes →
    ∃ d1, fetchAll ts.length d = some (ts, d1) ∧ d1.instructions.bytes = [] ∧ d1.pendingSecond = none

/-! ### The serializer and the chunk parser -/

/-- spec/46_window_serializer.md R185: the length assertion cannot fail. -/
def Obligations.LengthAssertUnreachable : Prop :=
  ∀ (e e1 : Encoder) (checksum : Option Nat), wsOutput e checksum ≠ .err e1 .encLengthAssert

/-- spec/46_window_serializer.md R182 to R184; spec/60_exceptions.md R258: a refused serializer operation changes nothing, but for the address cache when `WS_COPY` finds no opcode. That the cache is then the updated one is the model's reading of R184 and R258, where spec/93_implementation_defined.md U12 allows any value (log 24). -/
def Obligations.SerializerErrorsPrecise : Prop :=
  ∀ (cfg : Cfg) (map : InstrMap) (ws ws1 : Serializer) (bs : Bytes) (byte : Byte) (offset size : Nat) (c : Cause),
    ws.dictLen ≤ varintMax → ws.targetLen ≤ varintMax →
    (wsAdd cfg map ws bs = .err ws1 c → ws1 = ws) ∧
    (wsRun cfg map ws size byte = .err ws1 c → ws1 = ws) ∧
    (wsCopy cfg map ws offset size = .err ws1 c →
      (c = .encRange ∧ ws1 = ws) ∨ (c = .encNoOpcode ∧ ws1 = { ws with cache := ws.cache.update cfg offset }))

/-- spec/46_window_serializer.md R182 to R184, R187: what an accepted serializer operation adds to the window's counts, and that only `WS_COPY` moves the address cache, once. -/
def Obligations.SerializerCounts : Prop :=
  ∀ (cfg : Cfg) (map : InstrMap) (ws ws1 : Serializer) (bs : Bytes) (byte : Byte) (offset size : Nat),
    (wsAdd cfg map ws bs = .ok ws1 () → ws1.targetLen = ws.targetLen + bs.length ∧ ws1.cache = ws.cache ∧
      1 ≤ bs.length ∧ (cfg.interleaved = false → ws1.dataBuf.bytes = ws.dataBuf.bytes ++ bs ∧ ws1.addrBuf = ws.addrBuf)) ∧
    (wsRun cfg map ws size byte = .ok ws1 () → ws1.targetLen = ws.targetLen + size ∧ ws1.cache = ws.cache ∧
      1 ≤ size ∧ (cfg.interleaved = false → ws1.dataBuf.bytes = ws.dataBuf.bytes ++ [byte] ∧ ws1.addrBuf = ws.addrBuf)) ∧
    (wsCopy cfg map ws offset size = .ok ws1 () → ws1.targetLen = ws.targetLen + size ∧
      offset < ws.dictLen + ws.targetLen ∧ ws1.cache = ws.cache.update cfg offset ∧ 1 ≤ size ∧
      (cfg.interleaved = false → ws1.dataBuf = ws.dataBuf ∧
        ws1.addrBuf.bytes = ws.addrBuf.bytes ++ (ws.cache.field cfg offset (ws.dictLen + ws.targetLen)).bytes))

/-- spec/46_window_serializer.md R185, R187; spec/48_window_decoder.md R212: the window decoder reads back the header and the sections of every window the serializer writes. -/
def Obligations.SerializedWindowParses : Prop :=
  ∀ (e e1 : Encoder) (checksum : Option Nat) (cfg : Cfg) (dictLen : Nat) (rest : Bytes),
    ¬ (e.cfg.checksumFormat = .xdelta3 ∧ e.cfg.interleaved = true) → wsOutput e checksum = .ok e1 () →
    e.ws.targetLen ≤ cfg.maxWindowSize → e.ws.dictLen ≤ dictLen →
    ∃ window, e1.deltaOut.bytes = e.deltaOut.bytes ++ window ∧
      scanWindow cfg dictLen (versionByte e.cfg) (window ++ rest) = .ok
        { header :=
            { winInd := winIndicator e.cfg.checksumFormat, srcSegLen := e.ws.dictLen, srcSegPos := 0
              deltaLen := e.ws.deltaLen (checksumField e.cfg.checksumFormat (checksum.getD 0))
              targetLen := e.ws.targetLen, deltaInd := 0, lenData := e.ws.dataBuf.len, lenInst := e.ws.instBuf.len
              lenAddr := e.ws.addrBuf.len, hasChecksum := e.cfg.checksumFormat != .absent
              checksum := if e.cfg.checksumFormat = .absent then 0 else checksum.getD 0
              mode := windowMode e.ws.dataBuf.len e.ws.instBuf.len e.ws.addrBuf.len }
          checksum := if e.cfg.checksumFormat = .absent then none else checksum
          sections :=
            match windowMode e.ws.dataBuf.len e.ws.instBuf.len e.ws.addrBuf.len with
            | .standard => some ⟨e.ws.dataBuf.bytes, e.ws.instBuf.bytes, e.ws.addrBuf.bytes⟩
            | .interleaved => none }
        (match windowMode e.ws.dataBuf.len e.ws.instBuf.len e.ws.addrBuf.len with
          | .standard => rest
          | .interleaved => e.ws.instBuf.bytes ++ rest)

/-- spec/44_chunk_parse.md R151, R152; spec/70_reset_and_hazards.md R287: the parse ends, and the instructions it emits produce as many bytes as the chunk has, none of them yet in `DELTA_OUT`. That `TGT_IN` still is the chunk afterwards (log 29), and that a chunk of length 0 or above `BUFFER_CHUNK_SIZE` is parsed too (log 23, log 29), is the model's choice. -/
def Obligations.ParseCoversChunk : Prop :=
  ∀ (e : Encoder) (chunk : Bytes), 1 ≤ e.cfg.blockSize →
    (∀ f, cpParse e chunk ≠ .bad f) ∧
    (∀ e1, cpParse e chunk = .ok e1 () →
      e1.ws.targetLen = e.ws.targetLen + chunk.length ∧ e1.tgtIn.bytes = chunk ∧ e1.deltaOut = e.deltaOut ∧
      e1.parser.nextEncode ≤ chunk.length)

/-- spec/44_chunk_parse.md R153; spec/46_window_serializer.md R186; spec/48_window_decoder.md R210: an empty target gives the five-byte header and no window, and the stream-header parser accepts that header, whatever follows. That a session whose header is written encodes no second stream is the model's choice (log 26). -/
def Obligations.EmptyTargetIsHeaderOnly : Prop :=
  ∀ e : Encoder, checkEncodeCfg e.cfg = none → e.dict.len ≤ varintMax →
    e.dict.len / 4 + 1 ≤ 2 ^ e.cfg.tableMaxLog2 →
    (e.headerDone = false → ∃ e1, encodeStream e [] = .ok e1 () ∧ e1.headerDone = true ∧
      e1.deltaOut.bytes = e.deltaOut.bytes ++ [0xD6, 0xC3, 0xC4, versionByte e.cfg, 0x00]) ∧
    (e.headerDone = true → ∀ target, ∃ e1, encodeStream e target = .err e1 .seqOrder ∧ e1.deltaOut = e.deltaOut) ∧
    ∀ rest, scanFileHeader ([0xD6, 0xC3, 0xC4, versionByte e.cfg, 0x00] ++ rest) = .ok (versionByte e.cfg) rest

/-! ### The window decoder -/

/-- spec/48_window_decoder.md R213: on the available bytes, and as the operation itself. -/
def Obligations.WindowParseAllOrNothing : Prop :=
  (∀ (cfg : Cfg) (dictLen : Nat) (version : Byte) (bs more : Bytes),
    (∀ c, scanWindow cfg dictLen version bs = .err c → scanWindow cfg dictLen version (bs ++ more) = .err c) ∧
    (∀ w rest, scanWindow cfg dictLen version bs = .ok w rest →
      scanWindow cfg dictLen version (bs ++ more) = .ok w (rest ++ more))) ∧
  (∀ d d1 : Decoder, (d.wdParse = .eod d1 → d1 = d) ∧ ∀ c, d.wdParse = .err d1 c → d1 = d) ∧
  (∀ (d d1 : Decoder) (more : Bytes), d.inPos ≤ d.deltaIn.len →
    (∀ c, d.wdParse = .err d1 c →
      Decoder.wdParse { d with deltaIn := d.deltaIn.append more } = .err { d1 with deltaIn := d1.deltaIn.append more } c) ∧
    (d.wdParse = .ok d1 () →
      Decoder.wdParse { d with deltaIn := d.deltaIn.append more } = .ok { d1 with deltaIn := d1.deltaIn.append more } ()))

/-- spec/48_window_decoder.md R215; spec/60_exceptions.md R253: the limit is tested as soon as field 5 is readable, whatever follows. -/
def Obligations.WindowTooLarge : Prop :=
  ∀ (cfg : Cfg) (dictLen : Nat) (version : Byte) (segLen segPos deltaLen targetLen : Nat) (more : Bytes),
    segPos + segLen ≤ dictLen → segLen ≤ varintMax → segPos ≤ varintMax → deltaLen ≤ varintMax →
    targetLen ≤ varintMax → cfg.maxWindowSize < targetLen →
    scanWindow cfg dictLen version
        (0x01 :: (varintEncode segLen ++ varintEncode segPos ++ varintEncode deltaLen ++ varintEncode targetLen ++ more))
      = .err .windowTooLarge ∧
    scanWindow cfg dictLen version (0x04 :: (varintEncode deltaLen ++ varintEncode targetLen ++ more)) = .err .windowTooLarge

/-! ### The instructions -/

/-- spec/49_body_decoder.md R228: `ADD_V` and `ADD_1` to `ADD_17`, in a standard and in an interleaved window. -/
def Obligations.AddCompletes : Prop :=
  ∀ (i : Instr) (size : Nat) (s : State), i.first = ⟨.add, size, 0⟩ → i.second = none → s.dec.running →
    s.dec.decoded.len + size ≤ s.dec.win.targetLen →
    (s.dec.win.mode = .standard → s.dec.dpos + size ≤ s.dec.win.lenData → s.dec.win.lenData ≤ s.dec.secData.len →
      exec i s = .next { s with dec := { s.dec with
        decoded := s.dec.decoded.append (s.dec.secData.slice s.dec.dpos size)
        dpos := s.dec.dpos + size } }) ∧
    (s.dec.win.mode = .interleaved → s.dec.ipos + size ≤ s.dec.iend → s.dec.iend ≤ s.dec.carry.len →
      exec i s = .next { s with dec := { s.dec with
        decoded := s.dec.decoded.append (s.dec.carry.slice s.dec.ipos size)
        ipos := s.dec.ipos + size
        pendingInst := none } })

/-- spec/49_body_decoder.md R229: `RUN_V`. -/
def Obligations.RunCompletes : Prop :=
  ∀ (size : Nat) (b : Byte) (s : State), s.dec.running → s.dec.decoded.len + size ≤ s.dec.win.targetLen →
    (s.dec.win.mode = .standard → s.dec.dpos < s.dec.win.lenData → s.dec.secData.bytes[s.dec.dpos]? = some b →
      exec (.runV size) s = .next { s with dec := { s.dec with
        decoded := s.dec.decoded.append (List.replicate size b)
        dpos := s.dec.dpos + 1 } }) ∧
    (s.dec.win.mode = .interleaved → s.dec.ipos < s.dec.iend → s.dec.carry.bytes[s.dec.ipos]? = some b →
      exec (.runV size) s = .next { s with dec := { s.dec with
        decoded := s.dec.decoded.append (List.replicate size b)
        ipos := s.dec.ipos + 1
        pendingInst := none } })

/-- spec/49_body_decoder.md R230, R240; spec/20_memory.md R51: `COPY_V_Mm` and `COPY_4_Mm` to `COPY_18_Mm`, modes 0 to 8: when `AC_DECODE` gives an address the configuration admits, the bytes of R230's loop are appended, overlapping ones included. -/
def Obligations.CopyCompletes : Prop :=
  ∀ (i : Instr) (size mode a : Nat) (rest : Bytes) (cache : AddrCache) (s : State),
    i.first = ⟨.copy, size, mode⟩ → i.second = none → s.dec.running → s.dec.copySpaceFits →
    s.dec.decoded.len + size ≤ s.dec.win.targetLen →
    s.dec.cache.decode s.dec.cfg mode (s.dec.win.srcSegLen + s.dec.decoded.len) s.dec.addresses.bytes = .ok a rest cache →
    (s.dec.cfg.targetCopyMode = .refuse → a + size ≤ s.dec.win.srcSegLen) →
    ∃ bs, bs.length = size ∧ s.dec.copied a bs ∧
      (s.dec.win.mode = .standard →
        exec i s = .next { s with dec := { s.dec with
          decoded := s.dec.decoded.append bs
          apos := s.dec.apos + (s.dec.addresses.bytes.length - rest.length)
          cache := cache } }) ∧
      (s.dec.win.mode = .interleaved →
        exec i s = .next { s with dec := { s.dec with
          decoded := s.dec.decoded.append bs
          ipos := s.dec.ipos + (s.dec.addresses.bytes.length - rest.length)
          cache := cache
          pendingInst := none } })

/-- spec/49_body_decoder.md R228, R230, R231: `ADD_a_COPY_c_Mm`, the 72 rows of modes 0 to 5 and the 12 rows of modes 6 to 8: the literal bytes, then the bytes of the copy, whose `here` counts the literals. -/
def Obligations.AddCopyCompletes : Prop :=
  ∀ (i : Instr) (n c mode a : Nat) (rest : Bytes) (cache : AddrCache) (s : State),
    i.first = ⟨.add, n, 0⟩ → i.second = some ⟨.copy, c, mode⟩ → s.dec.running → s.dec.copySpaceFits →
    s.dec.decoded.len + n + c ≤ s.dec.win.targetLen →
    (s.dec.cfg.targetCopyMode = .refuse → a + c ≤ s.dec.win.srcSegLen) →
    (s.dec.win.mode = .standard → s.dec.dpos + n ≤ s.dec.win.lenData → s.dec.win.lenData ≤ s.dec.secData.len →
      s.dec.cache.decode s.dec.cfg mode (s.dec.win.srcSegLen + (s.dec.decoded.len + n))
        (s.dec.secAddr.slice s.dec.apos (s.dec.win.lenAddr - s.dec.apos)) = .ok a rest cache →
      ∃ bs, bs.length = c ∧
        Decoder.copied { s.dec with decoded := s.dec.decoded.append (s.dec.secData.slice s.dec.dpos n) } a bs ∧
        exec i s = .next { s with dec := { s.dec with
          decoded := (s.dec.decoded.append (s.dec.secData.slice s.dec.dpos n)).append bs
          dpos := s.dec.dpos + n
          apos := s.dec.apos + ((s.dec.secAddr.slice s.dec.apos (s.dec.win.lenAddr - s.dec.apos)).length - rest.length)
          cache := cache
          pendingSecond := none } }) ∧
    (s.dec.win.mode = .interleaved → s.dec.ipos + n ≤ s.dec.iend → s.dec.iend ≤ s.dec.carry.len →
      s.dec.cache.decode s.dec.cfg mode (s.dec.win.srcSegLen + (s.dec.decoded.len + n))
        (s.dec.carry.slice (s.dec.ipos + n) (s.dec.iend - (s.dec.ipos + n))) = .ok a rest cache →
      ∃ bs, bs.length = c ∧
        Decoder.copied { s.dec with decoded := s.dec.decoded.append (s.dec.carry.slice s.dec.ipos n) } a bs ∧
        exec i s = .next { s with dec := { s.dec with
          decoded := (s.dec.decoded.append (s.dec.carry.slice s.dec.ipos n)).append bs
          ipos := s.dec.ipos + n
            + ((s.dec.carry.slice (s.dec.ipos + n) (s.dec.iend - (s.dec.ipos + n))).length - rest.length)
          cache := cache
          pendingSecond := none
          pendingInst := none } })

/-- spec/49_body_decoder.md R228, R230, R231: `COPY_4_Mm_ADD_1`, modes 0 to 8: four copied bytes, then one literal byte. -/
def Obligations.CopyAddCompletes : Prop :=
  ∀ (i : Instr) (mode a : Nat) (b : Byte) (rest : Bytes) (cache : AddrCache) (s : State),
    i.first = ⟨.copy, 4, mode⟩ → i.second = some ⟨.add, 1, 0⟩ → s.dec.running → s.dec.copySpaceFits →
    s.dec.decoded.len + 5 ≤ s.dec.win.targetLen →
    (s.dec.cfg.targetCopyMode = .refuse → a + 4 ≤ s.dec.win.srcSegLen) →
    s.dec.cache.decode s.dec.cfg mode (s.dec.win.srcSegLen + s.dec.decoded.len) s.dec.addresses.bytes = .ok a rest cache →
    ∃ bs, bs.length = 4 ∧ s.dec.copied a bs ∧
      (s.dec.win.mode = .standard → s.dec.dpos < s.dec.win.lenData → s.dec.secData.bytes[s.dec.dpos]? = some b →
        exec i s = .next { s with dec := { s.dec with
          decoded := (s.dec.decoded.append bs).append [b]
          dpos := s.dec.dpos + 1
          apos := s.dec.apos + (s.dec.addresses.bytes.length - rest.length)
          cache := cache
          pendingSecond := none } }) ∧
      (s.dec.win.mode = .interleaved →
        s.dec.ipos + (s.dec.addresses.bytes.length - rest.length) < s.dec.iend →
        s.dec.carry.bytes[s.dec.ipos + (s.dec.addresses.bytes.length - rest.length)]? = some b →
        exec i s = .next { s with dec := { s.dec with
          decoded := (s.dec.decoded.append bs).append [b]
          ipos := s.dec.ipos + (s.dec.addresses.bytes.length - rest.length) + 1
          cache := cache
          pendingSecond := none
          pendingInst := none } })

/-- spec/49_body_decoder.md R231: a compound opcode is its first instruction, then its second, as two single opcodes would be; once the target length is reached the second stays pending. -/
def Obligations.CompoundIsItsHalves : Prop :=
  ∀ (i i1 i2 : Instr) (s s1 : State), i.second = some i2.first → i.first = i1.first → i1.second = none → i2.second = none →
    exec i1 s = .next s1 → s.dec.running → s1.dec.failed = none → s1.dec.waiting = none →
    (s1.dec.outputFull = false → exec i s = exec i2 { s1 with dec := { s1.dec with pendingSecond := none } }) ∧
    (s1.dec.outputFull = true →
      exec i s = .next { s1 with dec := { s1.dec with pendingSecond := some (BitVec.ofNat 8 i.opcode) } })

/-- spec/49_body_decoder.md R228, R229; spec/10_state.md R21: what `ADD_V`, `ADD_1` to `ADD_17` and `RUN_V` leave unchanged, whether they complete, wait or raise an error. -/
def Obligations.AddRunFrame : Prop :=
  ∀ (i : Instr) (s t : State), i.second = none → i.first.inst ≠ .copy → exec i s = .next t →
    t.enc = s.enc ∧ t.ops = s.ops ∧ s.dec.frameOf t.dec ∧
    t.dec.cache = s.dec.cache ∧ t.dec.apos = s.dec.apos ∧ t.dec.pendingSecond = s.dec.pendingSecond ∧
    (s.dec.win.mode = .standard → t.dec.ipos = s.dec.ipos ∧ t.dec.pendingInst = s.dec.pendingInst) ∧
    (s.dec.win.mode = .interleaved → t.dec.dpos = s.dec.dpos) ∧
    (t.dec.failed = s.dec.failed → t.dec.waiting = none → t.dec.call = s.dec.call ∧ t.last = s.last) ∧
    ∀ a, (a < s.dec.decoded.len ∨ s.dec.decoded.len + i.first.size ≤ a) → t.dec.decoded.read a = s.dec.decoded.read a

/-- spec/49_body_decoder.md R230; spec/10_state.md R21: what `COPY_V_Mm` and `COPY_4_Mm` to `COPY_18_Mm` leave unchanged. -/
def Obligations.CopyFrame : Prop :=
  ∀ (i : Instr) (s t : State), i.second = none → i.first.inst = .copy → exec i s = .next t →
    t.enc = s.enc ∧ t.ops = s.ops ∧ s.dec.frameOf t.dec ∧
    t.dec.dpos = s.dec.dpos ∧ t.dec.pendingSecond = s.dec.pendingSecond ∧
    (s.dec.win.mode = .standard → t.dec.ipos = s.dec.ipos ∧ t.dec.pendingInst = s.dec.pendingInst) ∧
    (s.dec.win.mode = .interleaved → t.dec.apos = s.dec.apos) ∧
    (t.dec.failed = s.dec.failed → t.dec.waiting = none → t.dec.call = s.dec.call ∧ t.last = s.last) ∧
    ∀ a, (a < s.dec.decoded.len ∨ s.dec.decoded.len + i.first.size ≤ a) → t.dec.decoded.read a = s.dec.decoded.read a

/-- spec/49_body_decoder.md R231; spec/10_state.md R21: what the compound opcodes leave unchanged. -/
def Obligations.CompoundFrame : Prop :=
  ∀ (i : Instr) (u : Triple) (s t : State), i.second = some u → exec i s = .next t →
    t.enc = s.enc ∧ t.ops = s.ops ∧ s.dec.frameOf t.dec ∧
    (t.dec.pendingSecond = s.dec.pendingSecond ∨ t.dec.pendingSecond = none
      ∨ t.dec.pendingSecond = some (BitVec.ofNat 8 i.opcode)) ∧
    (s.dec.win.mode = .standard → t.dec.ipos = s.dec.ipos ∧ t.dec.pendingInst = s.dec.pendingInst) ∧
    (s.dec.win.mode = .interleaved → t.dec.dpos = s.dec.dpos ∧ t.dec.apos = s.dec.apos) ∧
    (t.dec.failed = s.dec.failed → t.dec.waiting = none → t.dec.call = s.dec.call ∧ t.last = s.last) ∧
    ∀ a, (a < s.dec.decoded.len ∨ s.dec.decoded.len + i.first.size + u.size ≤ a) →
      t.dec.decoded.read a = s.dec.decoded.read a

/-- spec/49_body_decoder.md R232: an instruction, and the first half of a compound opcode, that would pass the declared target length. That the failed session holds its registers as they were before the instruction is the model's choice (log 24; spec/60_exceptions.md R258 leaves them unspecified to the host). -/
def Obligations.OverrunIsRefused : Prop :=
  ∀ (i : Instr) (s : State), s.dec.running → s.dec.win.targetLen < s.dec.decoded.len + i.first.size →
    exec i s = .next (State.raise { s with dec := s.dec.underway i } .decode .instructionOverrun)

/-- spec/49_body_decoder.md R227 to R230: in a standard window an instruction, and the first half of a compound opcode, whose bytes its section does not have is `TRUNCATED_SECTION`. That nothing of it is consumed in the failed session is the model's choice (log 24; spec/60_exceptions.md R258 leaves that unspecified to the host). -/
def Obligations.TruncatedStandard : Prop :=
  ∀ (i : Instr) (s : State), s.dec.running → s.dec.win.mode = .standard → s.dec.buffersFit →
    s.dec.decoded.len + i.first.size ≤ s.dec.win.targetLen →
    (i.first.inst = .add ∧ s.dec.win.lenData - s.dec.dpos < i.first.size
      ∨ i.first.inst = .run ∧ s.dec.win.lenData ≤ s.dec.dpos
      ∨ i.first.inst = .copy ∧ s.dec.cache.decode s.dec.cfg i.first.mode s.dec.here s.dec.addresses.bytes = .eod) →
    exec i s = .next (State.raise { s with dec := s.dec.underway i } .decode .truncatedSection)

/-- spec/49_body_decoder.md R235; spec/60_exceptions.md R254: in an interleaved window the same instruction, and the first half of a compound opcode, waits as a whole, recorded in `pendingInst`, while bytes of the section are outstanding; with none outstanding it is `TRUNCATED_SECTION`. What the registers hold in that failed session is the model's choice (log 24). -/
def Obligations.InterleavedWaits : Prop :=
  ∀ (i : Instr) (s : State), s.dec.running → s.dec.win.mode = .interleaved → s.dec.buffersFit →
    s.dec.decoded.len + i.first.size ≤ s.dec.win.targetLen →
    (i.first.inst = .add ∧ s.dec.iend - s.dec.ipos < i.first.size
      ∨ i.first.inst = .run ∧ s.dec.iend ≤ s.dec.ipos
      ∨ i.first.inst = .copy ∧ s.dec.cache.decode s.dec.cfg i.first.mode s.dec.here s.dec.addresses.bytes = .eod) →
    exec i s = .next
      (if s.dec.remaining = 0 then
        State.raise { s with dec := Decoder.underway { s.dec with pendingInst := some i.first } i } .decode .truncatedSection
      else State.suspend { s with dec := Decoder.underway { s.dec with pendingInst := some i.first } i })

/-- spec/49_body_decoder.md R230, R240; spec/41_address_cache.md R114: a `COPY`, single or the first half of a compound opcode, whose address field is refused raises the cause; one that `TARGET_COPY_MODE = refuse` does not admit raises `COPY_RANGE`. Both in either window mode. That the failed session holds the cache unchanged in the first case and updated in the second, `decoded` as before and the instruction in `pendingInst` is the model's choice (log 24; spec/60_exceptions.md R258 leaves them unspecified to the host). -/
def Obligations.CopyRefused : Prop :=
  ∀ (i : Instr) (s : State), i.first.inst = .copy → s.dec.running →
    s.dec.decoded.len + i.first.size ≤ s.dec.win.targetLen →
    (∀ c, s.dec.cache.decode s.dec.cfg i.first.mode s.dec.here s.dec.addresses.bytes = .err c →
      exec i s = .next (State.raise { s with dec := (s.dec.recorded i.first).underway i } .decode c)) ∧
    (∀ a rest cache, s.dec.cache.decode s.dec.cfg i.first.mode s.dec.here s.dec.addresses.bytes = .ok a rest cache →
      s.dec.cfg.targetCopyMode = .refuse → s.dec.win.srcSegLen < a + i.first.size →
      ∃ t, exec i s = .next t ∧ t.dec.failed = some .copyRange ∧ t.dec.cache = cache ∧ t.dec.decoded = s.dec.decoded)

/-- spec/49_body_decoder.md R225 to R231: no instruction is ever refused, and where the buffers hold the bytes below their limits every instruction gives a next state, whatever the bytes are. -/
def Obligations.ExecAnswersNext : Prop :=
  (∀ (i : Instr) (s : State) (r : Refusal), exec i s ≠ .refused r) ∧
  (∀ (i : Instr) (s : State), s.dec.buffersFit → s.dec.copySpaceFits → ∃ t, exec i s = .next t)

/-- spec/49_body_decoder.md R226; spec/10_state.md R30, window reset; spec/70_reset_and_hazards.md R280; with the model's own `stage` (log 11). That `dpos`, `apos`, `carry` and `remaining` are reset in both window modes is the model's reading of R30 beside R226 (log 30). -/
def Obligations.BodyStarts : Prop :=
  ∀ d : Decoder, d.stage = .parsed →
    (d.win.mode = .standard →
      d.bdStart = .ok { d with
        cache := AddrCache.reset d.cfg, decoded := [], pendingInst := none
        dpos := 0, apos := 0, carry := [], remaining := d.win.lenInst
        ibuf := .secInst, ipos := 0, iend := d.win.lenInst, pendingSecond := none, stage := .started } ()) ∧
    (d.win.mode = .interleaved →
      d.bdStart = .ok { d with
        cache := AddrCache.reset d.cfg, decoded := [], pendingInst := none
        dpos := 0, apos := 0, carry := [], remaining := d.win.lenInst
        ibuf := .carry, ipos := 0, iend := 0, pendingSecond := none, stage := .started } ())

/-- spec/49_body_decoder.md R233: the three ends of a window whose target length is reached, under `BD_RUN`, `BD_STEP` and `DECODE_CALL`, which after the commit goes on at the window boundary (R237). The operation in progress, its stage and its outcome are the model's own fields `call`, `stage`, `last` (log 4, log 5, log 11). That the session failed by `EXCESS_DATA` or `CHECKSUM_MISMATCH` keeps every register but the latch is the model's choice: spec/60_exceptions.md R258 leaves them open (log 24). -/
def Obligations.WindowCompletes : Prop :=
  ∀ s : State,
    (s.dec.call = some .bdRun ∨ s.dec.call = some .bdStep ∨ ∃ w0, s.dec.call = some (.decodeCall w0) ∧ s.dec.phase = .body) →
    s.dec.stage = .started → s.dec.win.targetLen ≤ s.dec.decoded.len →
    ((s.dec.ipos ≠ s.dec.iend ∨ s.dec.pendingSecond ≠ none
        ∨ (s.dec.win.mode = .standard ∧ (s.dec.dpos ≠ s.dec.win.lenData ∨ s.dec.apos ≠ s.dec.win.lenAddr))
        ∨ (s.dec.win.mode = .interleaved ∧ s.dec.remaining ≠ 0)) →
      step s = .next (s.raise .decode .excessData)) ∧
    (s.dec.ipos = s.dec.iend → s.dec.pendingSecond = none →
      (s.dec.win.mode = .standard → s.dec.dpos = s.dec.win.lenData ∧ s.dec.apos = s.dec.win.lenAddr) →
      (s.dec.win.mode = .interleaved → s.dec.remaining = 0) →
      (s.dec.win.hasChecksum = true ∧ adler32 s.dec.decoded.bytes ≠ s.dec.win.checksum →
        step s = .next (s.raise .decode .checksumMismatch)) ∧
      (s.dec.win.hasChecksum = false ∨ adler32 s.dec.decoded.bytes = s.dec.win.checksum →
        ((s.dec.call = some .bdRun ∨ s.dec.call = some .bdStep) →
          step s = .next { s with
            dec := { s.dec with
              tgtOut := s.dec.tgtOut.append s.dec.decoded.bytes
              written := s.dec.written + s.dec.decoded.len
              decoded := []
              stage := .closed
              call := none }
            last := some (.ok .unit) }) ∧
        (∀ w0, s.dec.call = some (.decodeCall w0) →
          step s = .next { s with
            dec := { s.dec with
              tgtOut := s.dec.tgtOut.append s.dec.decoded.bytes
              written := s.dec.written + s.dec.decoded.len
              decoded := []
              stage := .closed
              phase := .window } })))

/-- spec/49_body_decoder.md R234: two byte sequences that differ in exactly one bit have different Adler-32 values, each a natural below `2^32`. -/
def Obligations.AdlerSeesOneBit : Prop :=
  ∀ (front back : Bytes) (x y : Byte) (k : Nat), k < 8 → x ^^^ y = BitVec.ofNat 8 (2 ^ k) →
    adler32 (front ++ x :: back) ≠ adler32 (front ++ y :: back) ∧ adler32 (front ++ x :: back) < 2 ^ 32

/-! ### Rules of the whole machine -/

/-- spec/00_scope.md R9, R13; spec/60_exceptions.md R252: what a new encode session's configuration check accepts, and what the creation answers. -/
def Obligations.ConfigurationCheck : Prop :=
  ∀ (s : State) (cfg : Cfg) (dict : Bytes) (rest : List HostOp),
    s.dec.call = none → s.ops = .newEncoder cfg dict :: rest →
    (checkEncodeCfg cfg = none ↔
      2 * cfg.blockSize ≤ cfg.minMatch ∧ 1 ≤ cfg.nearSize ∧ cfg.nearSize ≤ 255 ∧ 1 ≤ cfg.sameSize ∧ cfg.sameSize ≤ 255
        ∧ ¬ (cfg.checksumFormat = .xdelta3 ∧ cfg.interleaved = true) ∧ 1 ≤ cfg.blockSize
        ∧ 2 + cfg.nearSize + cfg.sameSize ≤ 256 ∧ 1 ≤ cfg.maxMatches ∧ cfg.maxMatches ≤ 32
        ∧ 1 ≤ cfg.bufferChunkSize ∧ 1 ≤ cfg.hashMult ∧ codeTableValid cfg = true) ∧
    ∃ t, step s = .next t ∧
      t.enc = { Encoder.reset cfg (Memory.ofBytes dict) with failed := checkEncodeCfg cfg, frees := s.enc.frees } ∧
      (checkEncodeCfg cfg = none → t.last = some (.ok .unit)) ∧
      (∀ c, checkEncodeCfg cfg = some c → t.last = some (.cfgErr c))

/-- spec/60_exceptions.md R257: a failed session answers every operation at once, `DECODE_CALL` with `(Error, 0)`, and nothing else changes. That `lendTarget` and `supplyDelta` are among the operations refused (log 19), the queue the operation is taken from and the field `last` (log 5), and which session a VI operation belongs to (log 32), are the model's choice. -/
def Obligations.FailedSessionAnswers : Prop :=
  ∀ (s : State) (o : HostOp) (rest : List HostOp) (c : Cause),
    s.dec.call = none → s.ops = o :: rest → s.failedOf o.side = some c → o.creates = false →
    ((∀ bytes, o ≠ .decodeCall bytes) → step s = .next { s with ops := rest, last := some (.error c) }) ∧
    (∀ bytes, o = .decodeCall bytes → step s = .next { s with ops := rest, last := some (.call .error 0) })

/-- spec/60_exceptions.md R257, R259: nothing clears or changes a latch but the creation of a session of that side. -/
def Obligations.LatchIsSticky : Prop :=
  ∀ (s t : State) (side : Side) (c : Cause), step s = .next t → s.failedOf side = some c → ¬ s.creating side →
    t.failedOf side = some c

/-- spec/60_exceptions.md R250, R257: the outcome of an error is reported only while a session holds a cause. -/
def Obligations.ErrorSetsLatch : Prop :=
  ∀ s t : State, step s = .next t →
    (∀ r, s.last = some r → r.isError = true → ∃ side c, s.failedOf side = some c) →
    ∀ r, t.last = some r → r.isError = true → ∃ side c, t.failedOf side = some c

/-- spec/49_body_decoder.md R233; spec/60_exceptions.md R258: `TGT_OUT` changes only by the commit of a whole window that passed every check, and never loses a byte. -/
def Obligations.CommitOnlyWhenChecked : Prop :=
  ∀ s t : State, step s = .next t → ¬ s.creating .decode → t.dec.tgtOut ≠ s.dec.tgtOut →
    s.dec.stage = .started ∧ s.dec.win.targetLen ≤ s.dec.decoded.len ∧ s.dec.hasExcess = false ∧
    (s.dec.win.hasChecksum = true → adler32 s.dec.decoded.bytes = s.dec.win.checksum) ∧
    t.dec.tgtOut = s.dec.tgtOut.append s.dec.decoded.bytes ∧ t.dec.written = s.dec.written + s.dec.decoded.len

/-- spec/20_memory.md R50, R60: `DELTA_OUT` only grows. -/
def Obligations.DeltaOutOnlyGrows : Prop :=
  ∀ s t : State, step s = .next t → ¬ s.creating .encode → ∃ bs, t.enc.deltaOut = s.enc.deltaOut.append bs

/-- spec/10_state.md R20; spec/60_exceptions.md R261: an operation of one session leaves the other session as it was, and a decode operation in progress leaves the encode session and the queue as they were. The queue (log 5), and that a host names the session of a VI or AC operation (log 32), are the model's choice. -/
def Obligations.SessionsAreDisjoint : Prop :=
  ∀ s t : State, step s = .next t →
    (∀ o rest, s.dec.call = none → s.ops = o :: rest →
      t.ops = rest ∧ (o.side = .encode → t.dec = s.dec) ∧ (o.side = .decode → t.enc = s.enc)) ∧
    (s.dec.call ≠ none → t.enc = s.enc ∧ t.ops = s.ops)

/-- spec/10_state.md R26, R29; spec/20_memory.md R50, R57: the configuration and the dictionary of a session are constant. -/
def Obligations.ConfigAndDictConstant : Prop :=
  ∀ s t : State, step s = .next t →
    (¬ s.creating .encode → t.enc.cfg = s.enc.cfg ∧ t.enc.dict = s.enc.dict) ∧
    (¬ s.creating .decode → t.dec.cfg = s.dec.cfg ∧ t.dec.dict = s.dec.dict)

/-- spec/10_state.md R31; spec/70_reset_and_hazards.md R282, R283: an operation before what it depends on, or out of the numbered order, is `SEQ_ORDER`, and changes nothing but the latch. That it sets the latch, that a second `SD_HEADER`, `BD_START` or `WS_STREAM_HEADER` and a `BD_RUN` or `BD_STEP` in the other window mode are out of order is the model's reading (log 3, log 11, log 12). -/
def Obligations.OutOfOrderIsRefused : Prop :=
  ∀ (s : State) (o : HostOp) (rest : List HostOp),
    s.dec.call = none → s.ops = o :: rest → s.failedOf o.side = none →
    ((o = .wdParse ∧ (s.dec.streamVersion = none ∨ s.dec.stage ≠ .closed))
      ∨ (o = .bdStart ∧ s.dec.stage ≠ .parsed)
      ∨ (o = .sdHeader ∧ s.dec.streamVersion ≠ none)
      ∨ ((o = .bdRun ∨ o = .bdStep ∨ o = .idNext) ∧ s.dec.stage ≠ .started)
      ∨ (o = .bdRun ∧ s.dec.win.mode ≠ .standard) ∨ (o = .bdStep ∧ s.dec.win.mode ≠ .interleaved)
      ∨ ((∃ h out new, o = .rhRoll h out new) ∧ s.enc.hashReady = false)
      ∨ (o = .bhBuild ∧ s.enc.hashReady = false)
      ∨ ((∃ h p a b, o = .bhFind h p a b) ∧ s.enc.index.built = false)
      ∨ ((∃ inst size mode, o = .imEncode inst size mode) ∧ s.enc.map.built = false)
      ∨ ((∃ bytes, o = .wsAdd bytes) ∧ (s.enc.map.built = false ∨ s.enc.ws.ready = false))
      ∨ ((∃ size byte, o = .wsRun size byte) ∧ (s.enc.map.built = false ∨ s.enc.ws.ready = false))
      ∨ ((∃ offset size, o = .wsCopy offset size) ∧ (s.enc.map.built = false ∨ s.enc.ws.ready = false))
      ∨ ((∃ dictLen, o = .wsInit dictLen) ∧ (s.enc.hashReady = false ∨ s.enc.index.built = false))
      ∨ (o = .wsStreamHeader ∧ (s.enc.ws.ready = false ∨ s.enc.headerDone = true))
      ∨ ((∃ ck, o = .wsOutput ck) ∧ (s.enc.ws.ready = false ∨ s.enc.headerDone = false))
      ∨ ((∃ chunk, o = .cpParse chunk) ∧ s.enc.parseReady = false)) →
    step s = .next (State.raise { s with ops := rest } o.side .seqOrder)

/-- spec/10_state.md R30; spec/70_reset_and_hazards.md R280: the values R30's table gives for a session reset, for every configuration and dictionary; and the model's choice that the machine right after reset is two fresh sessions, idle (log 1). -/
def Obligations.ResetValues : Prop :=
  (∀ (cfg : Cfg) (dict : Memory),
    (Encoder.reset cfg dict).cfg = cfg ∧ (Encoder.reset cfg dict).dict = dict ∧
    (Encoder.reset cfg dict).ws.cache.near = List.replicate cfg.nearSize 0 ∧ (Encoder.reset cfg dict).ws.cache.nextSlot = 0 ∧
    (Encoder.reset cfg dict).ws.cache.same = List.replicate (cfg.sameSize * 256) 0 ∧
    (Encoder.reset cfg dict).ws.dataBuf = [] ∧ (Encoder.reset cfg dict).ws.instBuf = [] ∧
    (Encoder.reset cfg dict).ws.addrBuf = [] ∧ (Encoder.reset cfg dict).ws.lastOpIdx = none ∧
    (Encoder.reset cfg dict).ws.targetLen = 0 ∧ (Encoder.reset cfg dict).deltaOut = [] ∧
    (Encoder.reset cfg dict).failed = none ∧
    (Decoder.reset cfg dict).cfg = cfg ∧ (Decoder.reset cfg dict).dict = dict ∧
    (Decoder.reset cfg dict).cache.near = List.replicate cfg.nearSize 0 ∧ (Decoder.reset cfg dict).cache.nextSlot = 0 ∧
    (Decoder.reset cfg dict).cache.same = List.replicate (cfg.sameSize * 256) 0 ∧
    (Decoder.reset cfg dict).pendingSecond = none ∧ (Decoder.reset cfg dict).decoded = [] ∧
    (Decoder.reset cfg dict).inPos = 0 ∧ (Decoder.reset cfg dict).phase = .header ∧
    (Decoder.reset cfg dict).failed = none ∧ (Decoder.reset cfg dict).written = 0 ∧
    (Decoder.reset cfg dict).streamVersion = none ∧ (Decoder.reset cfg dict).tgtOut = []) ∧
  State.reset.enc = Encoder.reset defaultCfg [] ∧ State.reset.dec = Decoder.reset defaultCfg [] ∧
  step State.reset = .next State.reset

/-- Log 9, log 1: the invariants of the machine hold right after reset. -/
def Obligations.ResetIsGood : Prop :=
  State.reset.memoryWf ∧ State.reset.sound

/-- Log 9: every step keeps every memory in canonical form. -/
def Obligations.StepKeepsMemoryWf : Prop :=
  ∀ s t : State, s.memoryWf → step s = .next t → t.memoryWf

/-- spec/10_state.md R21, R22; spec/48_window_decoder.md R214; spec/49_body_decoder.md R232: every step keeps the address caches in shape, the serializer's registers in range, the window inside the dictionary and its declared length, and `written` the length of `TGT_OUT`. -/
def Obligations.StepKeepsSound : Prop :=
  ∀ s t : State, s.sound → step s = .next t → t.sound
end

