-- ==== Sys2Proof/Laws/Memory.lean ====
section
/-! SUPPORT. What the memory operations do: contents, length, reads, and that each keeps the canonical form (log 9). -/

namespace Sys2Proof.Machine

@[simp] theorem Memory.cellsFrom_bytes (a : Nat) (bs : Bytes) : (Memory.cellsFrom a bs).bytes = bs := by
  induction bs generalizing a with
  | nil => rfl
  | cons b bs ih => simpa [Memory.cellsFrom, Memory.bytes] using ih (a + 1)

@[simp] theorem Memory.cellsFrom_length (a : Nat) (bs : Bytes) : (Memory.cellsFrom a bs).length = bs.length := by
  induction bs generalizing a with
  | nil => rfl
  | cons b bs ih => simp [Memory.cellsFrom, ih]

theorem Memory.cellsFrom_addresses (a : Nat) (bs : Bytes) :
    (Memory.cellsFrom a bs).map Prod.fst = List.range' a bs.length := by
  induction bs generalizing a with
  | nil => rfl
  | cons b bs ih => simp [Memory.cellsFrom, ih, List.range'_succ]

@[simp] theorem Memory.bytes_length (m : Memory) : m.bytes.length = m.len := by
  simp [Memory.bytes, Memory.len]

@[simp] theorem Memory.ofBytes_bytes (bs : Bytes) : (Memory.ofBytes bs).bytes = bs :=
  Memory.cellsFrom_bytes 0 bs

@[simp] theorem Memory.ofBytes_len (bs : Bytes) : (Memory.ofBytes bs).len = bs.length :=
  Memory.cellsFrom_length 0 bs

@[simp] theorem Memory.append_bytes (m : Memory) (bs : Bytes) : (m.append bs).bytes = m.bytes ++ bs := by
  have h := Memory.cellsFrom_bytes m.length bs
  simp only [Memory.bytes] at h
  simp [Memory.append, Memory.bytes, h]

@[simp] theorem Memory.append_len (m : Memory) (bs : Bytes) : (m.append bs).len = m.len + bs.length := by
  simp [Memory.append, Memory.len]

@[simp] theorem Memory.append_nil (m : Memory) : m.append [] = m := by
  simp [Memory.append, Memory.cellsFrom]

@[simp] theorem Memory.write_len (m : Memory) (a : Nat) (b : Byte) : (m.write a b).len = m.len := by
  simp [Memory.write, Memory.len]

@[simp] theorem Memory.nil_wf : Memory.wf [] = true := rfl

@[simp] theorem Memory.nil_bytes : Memory.bytes [] = [] := rfl

@[simp] theorem Memory.nil_len : Memory.len [] = 0 := rfl

@[simp] theorem Memory.ofBytes_wf (bs : Bytes) : (Memory.ofBytes bs).wf = true := by
  simp [Memory.wf, Memory.ofBytes, Memory.cellsFrom_addresses, List.range_eq_range']

theorem Memory.wf_append {m : Memory} (h : m.wf = true) (bs : Bytes) : (m.append bs).wf = true := by
  simp only [Memory.wf, beq_iff_eq] at h ⊢
  simp only [Memory.append, List.map_append, h, Memory.cellsFrom_addresses, List.length_append,
    Memory.cellsFrom_length, List.range_eq_range']
  rw [List.range'_append_1 |>.symm]
  simp

theorem Memory.wf_write {m : Memory} (h : m.wf = true) (a : Nat) (b : Byte) : (m.write a b).wf = true := by
  have e : (fun c : Host.Cell => (if c.1 = a then (a, b) else c).1) = Prod.fst := by
    funext c; split <;> simp_all
  simpa [Memory.wf, Memory.write, Function.comp_def, e] using h

/-! ### Reads -/

theorem Memory.cellsFrom_read (k : Nat) (bs : Bytes) (a : Nat) :
    (Memory.cellsFrom k bs).read a = if k ≤ a then bs[a - k]? else none := by
  induction bs generalizing k with
  | nil => simp [Memory.cellsFrom, Memory.read]
  | cons b bs ih =>
    simp only [Memory.cellsFrom, Memory.read, ih]
    rcases Nat.lt_trichotomy k a with h | h | h
    · have : a - k = (a - (k + 1)) + 1 := by omega
      simp [Nat.ne_of_lt h, Nat.le_of_lt h, Nat.succ_le_of_lt h, this]
    · simp [h]
    · simp [Nat.ne_of_gt h, Nat.not_le.mpr h, show ¬ k + 1 ≤ a by omega]

theorem Memory.read_concat (m m' : Memory) (a : Nat) :
    Memory.read (m ++ m') a = (Memory.read m a).or (Memory.read m' a) := by
  induction m with
  | nil => rfl
  | cons c m ih =>
    obtain ⟨k, b⟩ := c
    by_cases h : k = a
    · simp [Memory.read, h]
    · simpa [Memory.read, h] using ih

theorem Memory.append_read (m : Memory) (bs : Bytes) (a : Nat) :
    (m.append bs).read a = (m.read a).or (if m.len ≤ a then bs[a - m.len]? else none) := by
  rw [Memory.append, Memory.read_concat, Memory.cellsFrom_read, Memory.len]

/-- A memory in canonical form is the one its bytes give. -/
theorem Memory.ofBytes_of_wf {m : Memory} (h : m.wf = true) : Memory.ofBytes m.bytes = m := by
  simp only [Memory.wf, beq_iff_eq] at h
  have h1 : (Memory.ofBytes m.bytes).map Prod.fst = m.map Prod.fst := by
    rw [h, Memory.ofBytes, Memory.cellsFrom_addresses, List.range_eq_range']; simp [Memory.len]
  have h2 : (Memory.ofBytes m.bytes).map Prod.snd = m.map Prod.snd := Memory.cellsFrom_bytes 0 m.bytes
  have z : ∀ x : Memory, (x.map Prod.fst).zip (x.map Prod.snd) = x := fun x => (List.zip_of_prod rfl rfl).symm
  rw [← z (Memory.ofBytes m.bytes), h1, h2, z m]

/-- In a memory in canonical form the byte at an address is the one at that position. -/
theorem Memory.read_of_wf {m : Memory} (h : m.wf = true) (a : Nat) : m.read a = m.bytes[a]? := by
  conv_lhs => rw [← Memory.ofBytes_of_wf h, Memory.ofBytes, Memory.cellsFrom_read]
  simp

theorem Memory.wf_read_lt {m : Memory} (h : m.wf = true) {a : Nat} (ha : a < m.len) : ∃ b, m.read a = some b := by
  rw [Memory.read_of_wf h]
  exact ⟨_, List.getElem?_eq_getElem (by simpa using ha)⟩

/-- An append leaves every address outside the appended ones as it was. -/
theorem Memory.append_read_outside (m : Memory) (bs : Bytes) (a : Nat)
    (h : a < m.len ∨ m.len + bs.length ≤ a) : (m.append bs).read a = m.read a := by
  rw [Memory.append_read]
  have : (if m.len ≤ a then bs[a - m.len]? else none) = none := by
    split
    · exact List.getElem?_eq_none (by omega)
    · rfl
  simp [this]

end Sys2Proof.Machine
end

