-- ==== Sys2Proof/Laws/Outcome.lean ====
section
/-! SUPPORT. The outcomes of units in sequence: what `Act.bind`, `Act.requires`, `Scan.bind` and the `settle` operations answer, once for each outcome. -/

namespace Sys2Proof.Machine

variable {σ α β : Type}

@[simp] theorem Act.bind_ok (s : σ) (a : α) (f : σ → α → Act σ β) : (Act.ok s a).bind f = f s a := rfl
@[simp] theorem Act.bind_eod (s : σ) (f : σ → α → Act σ β) : (Act.eod s).bind f = .eod s := rfl
@[simp] theorem Act.bind_err (s : σ) (c : Cause) (f : σ → α → Act σ β) : (Act.err s c).bind f = .err s c := rfl
@[simp] theorem Act.bind_bad (b : Fault) (f : σ → α → Act σ β) : (Act.bad b : Act σ α).bind f = .bad b := rfl

theorem Act.bind_eq_ok {x : Act σ α} {f : σ → α → Act σ β} {s : σ} {b : β} :
    x.bind f = .ok s b ↔ ∃ s1 a, x = .ok s1 a ∧ f s1 a = .ok s b := by
  cases x <;> simp

theorem Act.bind_eq_eod {x : Act σ α} {f : σ → α → Act σ β} {s : σ} :
    x.bind f = .eod s ↔ x = .eod s ∨ ∃ s1 a, x = .ok s1 a ∧ f s1 a = .eod s := by
  cases x <;> simp

theorem Act.bind_eq_err {x : Act σ α} {f : σ → α → Act σ β} {s : σ} {c : Cause} :
    x.bind f = .err s c ↔ x = .err s c ∨ ∃ s1 a, x = .ok s1 a ∧ f s1 a = .err s c := by
  cases x <;> simp

theorem Act.bind_eq_bad {x : Act σ α} {f : σ → α → Act σ β} {b : Fault} :
    x.bind f = .bad b ↔ x = .bad b ∨ ∃ s1 a, x = .ok s1 a ∧ f s1 a = .bad b := by
  cases x <;> simp

@[simp] theorem Act.requires_true (s : σ) (x : Act σ α) : Act.requires true s x = x := rfl
@[simp] theorem Act.requires_false (s : σ) (x : Act σ α) : Act.requires false s x = .err s .seqOrder := rfl

/-- Every session an outcome carries has a property; a stop of the model carries none. -/
def Act.leaves (x : Act σ α) (P : σ → Prop) : Prop :=
  match x with
  | .ok s _ => P s
  | .eod s => P s
  | .err s _ => P s
  | .bad _ => True

/-- In a sequence it is enough that each part leaves the property. -/
theorem Act.leaves_bind {x : Act σ α} {f : σ → α → Act σ β} {P : σ → Prop} (h : x.leaves P)
    (hf : ∀ s a, x = .ok s a → P s → (f s a).leaves P) : (x.bind f).leaves P := by
  cases x with
  | ok s a => exact hf s a rfl h
  | eod s => exact h
  | err s c => exact h
  | bad f => trivial

theorem Act.leaves_imp {x : Act σ α} {P Q : σ → Prop} (h : x.leaves P) (hpq : ∀ s, P s → Q s) : x.leaves Q := by
  cases x <;> first | exact hpq _ h | trivial

theorem Act.leaves_requires {ready : Bool} {s : σ} {x : Act σ α} {P : σ → Prop} (hs : P s) (h : x.leaves P) :
    (Act.requires ready s x).leaves P := by
  cases ready
  · exact hs
  · exact h

@[simp] theorem Scan.bind_ok (a : α) (rest : Bytes) (f : α → Bytes → Scan β) : (Scan.ok a rest).bind f = f a rest := rfl
@[simp] theorem Scan.bind_eod (f : α → Bytes → Scan β) : (Scan.eod : Scan α).bind f = .eod := rfl
@[simp] theorem Scan.bind_err (c : Cause) (f : α → Bytes → Scan β) : (Scan.err c : Scan α).bind f = .err c := rfl

theorem Scan.bind_eq_ok {x : Scan α} {f : α → Bytes → Scan β} {b : β} {rest : Bytes} :
    x.bind f = .ok b rest ↔ ∃ a r, x = .ok a r ∧ f a r = .ok b rest := by
  cases x <;> simp

theorem Scan.bind_eq_err {x : Scan α} {f : α → Bytes → Scan β} {c : Cause} :
    x.bind f = .err c ↔ x = .err c ∨ ∃ a r, x = .ok a r ∧ f a r = .err c := by
  cases x <;> simp

/-! ### What a step answers -/

@[simp] theorem State.settle_ok (s : State) (d : Decoder) (a : Unit) : s.settle (.ok d a) = .next { s with dec := d } := rfl
@[simp] theorem State.settle_eod (s : State) (d : Decoder) :
    s.settle (.eod d) = .next (State.suspend { s with dec := d }) := rfl
@[simp] theorem State.settle_err (s : State) (d : Decoder) (c : Cause) :
    s.settle (.err d c) = .next (State.raiseDecode { s with dec := d } c) := rfl
@[simp] theorem State.settle_bad (s : State) (f : Fault) : s.settle (.bad f) = .fault f := rfl

/-- A piece of a decode operation answers a next state in exactly three ways. -/
theorem State.settle_next {s t : State} {x : Act Decoder Unit} :
    s.settle x = .next t ↔
      (∃ d, x = .ok d () ∧ t = { s with dec := d }) ∨ (∃ d, x = .eod d ∧ t = State.suspend { s with dec := d }) ∨
      ∃ d c, x = .err d c ∧ t = State.raiseDecode { s with dec := d } c := by
  cases x <;> simp [State.settle, State.raise, eq_comm]

theorem State.settle_not_refused (s : State) (x : Act Decoder Unit) (r : Refusal) : s.settle x ≠ .refused r := by
  cases x <;> simp [State.settle]

/-- An operation of a decode session answers a next state in exactly three ways. -/
theorem State.settleDecode_next {s t : State} {x : Act Decoder Value} :
    s.settleDecode x = .next t ↔
      (∃ d v, x = .ok d v ∧ t = { s with dec := d, last := some (.ok v) }) ∨
      (∃ d, x = .eod d ∧ t = { s with dec := d, last := some .eod }) ∨
      ∃ d c, x = .err d c ∧ t = State.raiseDecode { s with dec := d } c := by
  cases x <;> simp [State.settleDecode, State.raise, eq_comm]

/-- An operation of an encode session answers a next state in exactly three ways. -/
theorem State.settleEncode_next {s t : State} {x : Act Encoder Value} :
    s.settleEncode x = .next t ↔
      (∃ e v, x = .ok e v ∧ t = { s with enc := e, last := some (.ok v) }) ∨
      (∃ e, x = .eod e ∧ t = { s with enc := e, last := some .eod }) ∨
      ∃ e c, x = .err e c ∧ t = State.raiseEncode { s with enc := e } c := by
  cases x <;> simp [State.settleEncode, State.raise, eq_comm]

end Sys2Proof.Machine
end

