-- ==== Sys2Proof/Laws/State.lean ====
section
/-! SUPPORT. What each named update of a session leaves in each field, one lemma per field, so that no later proof unfolds a record update. -/

namespace Sys2Proof.Machine

/-! ### The decode session -/

@[simp] theorem Decoder.setLiteralPos_cfg (d : Decoder) (p : Nat) : (d.setLiteralPos p).cfg = d.cfg := by
  unfold Decoder.setLiteralPos; split <;> rfl
@[simp] theorem Decoder.setLiteralPos_dict (d : Decoder) (p : Nat) : (d.setLiteralPos p).dict = d.dict := by
  unfold Decoder.setLiteralPos; split <;> rfl
@[simp] theorem Decoder.setLiteralPos_deltaIn (d : Decoder) (p : Nat) : (d.setLiteralPos p).deltaIn = d.deltaIn := by
  unfold Decoder.setLiteralPos; split <;> rfl
@[simp] theorem Decoder.setLiteralPos_secData (d : Decoder) (p : Nat) : (d.setLiteralPos p).secData = d.secData := by
  unfold Decoder.setLiteralPos; split <;> rfl
@[simp] theorem Decoder.setLiteralPos_secInst (d : Decoder) (p : Nat) : (d.setLiteralPos p).secInst = d.secInst := by
  unfold Decoder.setLiteralPos; split <;> rfl
@[simp] theorem Decoder.setLiteralPos_secAddr (d : Decoder) (p : Nat) : (d.setLiteralPos p).secAddr = d.secAddr := by
  unfold Decoder.setLiteralPos; split <;> rfl
@[simp] theorem Decoder.setLiteralPos_carry (d : Decoder) (p : Nat) : (d.setLiteralPos p).carry = d.carry := by
  unfold Decoder.setLiteralPos; split <;> rfl
@[simp] theorem Decoder.setLiteralPos_decoded (d : Decoder) (p : Nat) : (d.setLiteralPos p).decoded = d.decoded := by
  unfold Decoder.setLiteralPos; split <;> rfl
@[simp] theorem Decoder.setLiteralPos_tgtOut (d : Decoder) (p : Nat) : (d.setLiteralPos p).tgtOut = d.tgtOut := by
  unfold Decoder.setLiteralPos; split <;> rfl
@[simp] theorem Decoder.setLiteralPos_ibuf (d : Decoder) (p : Nat) : (d.setLiteralPos p).ibuf = d.ibuf := by
  unfold Decoder.setLiteralPos; split <;> rfl
@[simp] theorem Decoder.setLiteralPos_ipos (d : Decoder) (p : Nat) : (d.setLiteralPos p).ipos = if d.win.mode = .standard then d.ipos else p := by
  unfold Decoder.setLiteralPos; cases h : d.win.mode <;> simp
@[simp] theorem Decoder.setLiteralPos_iend (d : Decoder) (p : Nat) : (d.setLiteralPos p).iend = d.iend := by
  unfold Decoder.setLiteralPos; split <;> rfl
@[simp] theorem Decoder.setLiteralPos_pendingSecond (d : Decoder) (p : Nat) : (d.setLiteralPos p).pendingSecond = d.pendingSecond := by
  unfold Decoder.setLiteralPos; split <;> rfl
@[simp] theorem Decoder.setLiteralPos_win (d : Decoder) (p : Nat) : (d.setLiteralPos p).win = d.win := by
  unfold Decoder.setLiteralPos; split <;> rfl
@[simp] theorem Decoder.setLiteralPos_dpos (d : Decoder) (p : Nat) : (d.setLiteralPos p).dpos = if d.win.mode = .standard then p else d.dpos := by
  unfold Decoder.setLiteralPos; cases h : d.win.mode <;> simp
@[simp] theorem Decoder.setLiteralPos_apos (d : Decoder) (p : Nat) : (d.setLiteralPos p).apos = d.apos := by
  unfold Decoder.setLiteralPos; split <;> rfl
@[simp] theorem Decoder.setLiteralPos_remaining (d : Decoder) (p : Nat) : (d.setLiteralPos p).remaining = d.remaining := by
  unfold Decoder.setLiteralPos; split <;> rfl
@[simp] theorem Decoder.setLiteralPos_pendingInst (d : Decoder) (p : Nat) : (d.setLiteralPos p).pendingInst = d.pendingInst := by
  unfold Decoder.setLiteralPos; split <;> rfl
@[simp] theorem Decoder.setLiteralPos_cache (d : Decoder) (p : Nat) : (d.setLiteralPos p).cache = d.cache := by
  unfold Decoder.setLiteralPos; split <;> rfl
@[simp] theorem Decoder.setLiteralPos_streamVersion (d : Decoder) (p : Nat) : (d.setLiteralPos p).streamVersion = d.streamVersion := by
  unfold Decoder.setLiteralPos; split <;> rfl
@[simp] theorem Decoder.setLiteralPos_inPos (d : Decoder) (p : Nat) : (d.setLiteralPos p).inPos = d.inPos := by
  unfold Decoder.setLiteralPos; split <;> rfl
@[simp] theorem Decoder.setLiteralPos_phase (d : Decoder) (p : Nat) : (d.setLiteralPos p).phase = d.phase := by
  unfold Decoder.setLiteralPos; split <;> rfl
@[simp] theorem Decoder.setLiteralPos_written (d : Decoder) (p : Nat) : (d.setLiteralPos p).written = d.written := by
  unfold Decoder.setLiteralPos; split <;> rfl
@[simp] theorem Decoder.setLiteralPos_failed (d : Decoder) (p : Nat) : (d.setLiteralPos p).failed = d.failed := by
  unfold Decoder.setLiteralPos; split <;> rfl
@[simp] theorem Decoder.setLiteralPos_stage (d : Decoder) (p : Nat) : (d.setLiteralPos p).stage = d.stage := by
  unfold Decoder.setLiteralPos; split <;> rfl
@[simp] theorem Decoder.setLiteralPos_call (d : Decoder) (p : Nat) : (d.setLiteralPos p).call = d.call := by
  unfold Decoder.setLiteralPos; split <;> rfl
@[simp] theorem Decoder.setLiteralPos_frees (d : Decoder) (p : Nat) : (d.setLiteralPos p).frees = d.frees := by
  unfold Decoder.setLiteralPos; split <;> rfl
@[simp] theorem Decoder.setAddressPos_cfg (d : Decoder) (p : Nat) : (d.setAddressPos p).cfg = d.cfg := by
  unfold Decoder.setAddressPos; split <;> rfl
@[simp] theorem Decoder.setAddressPos_dict (d : Decoder) (p : Nat) : (d.setAddressPos p).dict = d.dict := by
  unfold Decoder.setAddressPos; split <;> rfl
@[simp] theorem Decoder.setAddressPos_deltaIn (d : Decoder) (p : Nat) : (d.setAddressPos p).deltaIn = d.deltaIn := by
  unfold Decoder.setAddressPos; split <;> rfl
@[simp] theorem Decoder.setAddressPos_secData (d : Decoder) (p : Nat) : (d.setAddressPos p).secData = d.secData := by
  unfold Decoder.setAddressPos; split <;> rfl
@[simp] theorem Decoder.setAddressPos_secInst (d : Decoder) (p : Nat) : (d.setAddressPos p).secInst = d.secInst := by
  unfold Decoder.setAddressPos; split <;> rfl
@[simp] theorem Decoder.setAddressPos_secAddr (d : Decoder) (p : Nat) : (d.setAddressPos p).secAddr = d.secAddr := by
  unfold Decoder.setAddressPos; split <;> rfl
@[simp] theorem Decoder.setAddressPos_carry (d : Decoder) (p : Nat) : (d.setAddressPos p).carry = d.carry := by
  unfold Decoder.setAddressPos; split <;> rfl
@[simp] theorem Decoder.setAddressPos_decoded (d : Decoder) (p : Nat) : (d.setAddressPos p).decoded = d.decoded := by
  unfold Decoder.setAddressPos; split <;> rfl
@[simp] theorem Decoder.setAddressPos_tgtOut (d : Decoder) (p : Nat) : (d.setAddressPos p).tgtOut = d.tgtOut := by
  unfold Decoder.setAddressPos; split <;> rfl
@[simp] theorem Decoder.setAddressPos_ibuf (d : Decoder) (p : Nat) : (d.setAddressPos p).ibuf = d.ibuf := by
  unfold Decoder.setAddressPos; split <;> rfl
@[simp] theorem Decoder.setAddressPos_ipos (d : Decoder) (p : Nat) : (d.setAddressPos p).ipos = if d.win.mode = .standard then d.ipos else p := by
  unfold Decoder.setAddressPos; cases h : d.win.mode <;> simp
@[simp] theorem Decoder.setAddressPos_iend (d : Decoder) (p : Nat) : (d.setAddressPos p).iend = d.iend := by
  unfold Decoder.setAddressPos; split <;> rfl
@[simp] theorem Decoder.setAddressPos_pendingSecond (d : Decoder) (p : Nat) : (d.setAddressPos p).pendingSecond = d.pendingSecond := by
  unfold Decoder.setAddressPos; split <;> rfl
@[simp] theorem Decoder.setAddressPos_win (d : Decoder) (p : Nat) : (d.setAddressPos p).win = d.win := by
  unfold Decoder.setAddressPos; split <;> rfl
@[simp] theorem Decoder.setAddressPos_dpos (d : Decoder) (p : Nat) : (d.setAddressPos p).dpos = d.dpos := by
  unfold Decoder.setAddressPos; split <;> rfl
@[simp] theorem Decoder.setAddressPos_apos (d : Decoder) (p : Nat) : (d.setAddressPos p).apos = if d.win.mode = .standard then p else d.apos := by
  unfold Decoder.setAddressPos; cases h : d.win.mode <;> simp
@[simp] theorem Decoder.setAddressPos_remaining (d : Decoder) (p : Nat) : (d.setAddressPos p).remaining = d.remaining := by
  unfold Decoder.setAddressPos; split <;> rfl
@[simp] theorem Decoder.setAddressPos_pendingInst (d : Decoder) (p : Nat) : (d.setAddressPos p).pendingInst = d.pendingInst := by
  unfold Decoder.setAddressPos; split <;> rfl
@[simp] theorem Decoder.setAddressPos_cache (d : Decoder) (p : Nat) : (d.setAddressPos p).cache = d.cache := by
  unfold Decoder.setAddressPos; split <;> rfl
@[simp] theorem Decoder.setAddressPos_streamVersion (d : Decoder) (p : Nat) : (d.setAddressPos p).streamVersion = d.streamVersion := by
  unfold Decoder.setAddressPos; split <;> rfl
@[simp] theorem Decoder.setAddressPos_inPos (d : Decoder) (p : Nat) : (d.setAddressPos p).inPos = d.inPos := by
  unfold Decoder.setAddressPos; split <;> rfl
@[simp] theorem Decoder.setAddressPos_phase (d : Decoder) (p : Nat) : (d.setAddressPos p).phase = d.phase := by
  unfold Decoder.setAddressPos; split <;> rfl
@[simp] theorem Decoder.setAddressPos_written (d : Decoder) (p : Nat) : (d.setAddressPos p).written = d.written := by
  unfold Decoder.setAddressPos; split <;> rfl
@[simp] theorem Decoder.setAddressPos_failed (d : Decoder) (p : Nat) : (d.setAddressPos p).failed = d.failed := by
  unfold Decoder.setAddressPos; split <;> rfl
@[simp] theorem Decoder.setAddressPos_stage (d : Decoder) (p : Nat) : (d.setAddressPos p).stage = d.stage := by
  unfold Decoder.setAddressPos; split <;> rfl
@[simp] theorem Decoder.setAddressPos_call (d : Decoder) (p : Nat) : (d.setAddressPos p).call = d.call := by
  unfold Decoder.setAddressPos; split <;> rfl
@[simp] theorem Decoder.setAddressPos_frees (d : Decoder) (p : Nat) : (d.setAddressPos p).frees = d.frees := by
  unfold Decoder.setAddressPos; split <;> rfl
@[simp] theorem Decoder.idInit_cfg (d : Decoder) (b : InstBuf) (first last : Nat) : (d.idInit b first last).cfg = d.cfg := rfl
@[simp] theorem Decoder.idInit_dict (d : Decoder) (b : InstBuf) (first last : Nat) : (d.idInit b first last).dict = d.dict := rfl
@[simp] theorem Decoder.idInit_deltaIn (d : Decoder) (b : InstBuf) (first last : Nat) : (d.idInit b first last).deltaIn = d.deltaIn := rfl
@[simp] theorem Decoder.idInit_secData (d : Decoder) (b : InstBuf) (first last : Nat) : (d.idInit b first last).secData = d.secData := rfl
@[simp] theorem Decoder.idInit_secInst (d : Decoder) (b : InstBuf) (first last : Nat) : (d.idInit b first last).secInst = d.secInst := rfl
@[simp] theorem Decoder.idInit_secAddr (d : Decoder) (b : InstBuf) (first last : Nat) : (d.idInit b first last).secAddr = d.secAddr := rfl
@[simp] theorem Decoder.idInit_carry (d : Decoder) (b : InstBuf) (first last : Nat) : (d.idInit b first last).carry = d.carry := rfl
@[simp] theorem Decoder.idInit_decoded (d : Decoder) (b : InstBuf) (first last : Nat) : (d.idInit b first last).decoded = d.decoded := rfl
@[simp] theorem Decoder.idInit_tgtOut (d : Decoder) (b : InstBuf) (first last : Nat) : (d.idInit b first last).tgtOut = d.tgtOut := rfl
@[simp] theorem Decoder.idInit_ibuf (d : Decoder) (b : InstBuf) (first last : Nat) : (d.idInit b first last).ibuf = b := rfl
@[simp] theorem Decoder.idInit_ipos (d : Decoder) (b : InstBuf) (first last : Nat) : (d.idInit b first last).ipos = first := rfl
@[simp] theorem Decoder.idInit_iend (d : Decoder) (b : InstBuf) (first last : Nat) : (d.idInit b first last).iend = last := rfl
@[simp] theorem Decoder.idInit_pendingSecond (d : Decoder) (b : InstBuf) (first last : Nat) : (d.idInit b first last).pendingSecond = none := rfl
@[simp] theorem Decoder.idInit_win (d : Decoder) (b : InstBuf) (first last : Nat) : (d.idInit b first last).win = d.win := rfl
@[simp] theorem Decoder.idInit_dpos (d : Decoder) (b : InstBuf) (first last : Nat) : (d.idInit b first last).dpos = d.dpos := rfl
@[simp] theorem Decoder.idInit_apos (d : Decoder) (b : InstBuf) (first last : Nat) : (d.idInit b first last).apos = d.apos := rfl
@[simp] theorem Decoder.idInit_remaining (d : Decoder) (b : InstBuf) (first last : Nat) : (d.idInit b first last).remaining = d.remaining := rfl
@[simp] theorem Decoder.idInit_pendingInst (d : Decoder) (b : InstBuf) (first last : Nat) : (d.idInit b first last).pendingInst = d.pendingInst := rfl
@[simp] theorem Decoder.idInit_cache (d : Decoder) (b : InstBuf) (first last : Nat) : (d.idInit b first last).cache = d.cache := rfl
@[simp] theorem Decoder.idInit_streamVersion (d : Decoder) (b : InstBuf) (first last : Nat) : (d.idInit b first last).streamVersion = d.streamVersion := rfl
@[simp] theorem Decoder.idInit_inPos (d : Decoder) (b : InstBuf) (first last : Nat) : (d.idInit b first last).inPos = d.inPos := rfl
@[simp] theorem Decoder.idInit_phase (d : Decoder) (b : InstBuf) (first last : Nat) : (d.idInit b first last).phase = d.phase := rfl
@[simp] theorem Decoder.idInit_written (d : Decoder) (b : InstBuf) (first last : Nat) : (d.idInit b first last).written = d.written := rfl
@[simp] theorem Decoder.idInit_failed (d : Decoder) (b : InstBuf) (first last : Nat) : (d.idInit b first last).failed = d.failed := rfl
@[simp] theorem Decoder.idInit_stage (d : Decoder) (b : InstBuf) (first last : Nat) : (d.idInit b first last).stage = d.stage := rfl
@[simp] theorem Decoder.idInit_call (d : Decoder) (b : InstBuf) (first last : Nat) : (d.idInit b first last).call = d.call := rfl
@[simp] theorem Decoder.idInit_frees (d : Decoder) (b : InstBuf) (first last : Nat) : (d.idInit b first last).frees = d.frees := rfl
@[simp] theorem Decoder.overflowed_cfg (d : Decoder) : (d.overflowed).cfg = d.cfg := rfl
@[simp] theorem Decoder.overflowed_dict (d : Decoder) : (d.overflowed).dict = d.dict := rfl
@[simp] theorem Decoder.overflowed_deltaIn (d : Decoder) : (d.overflowed).deltaIn = d.deltaIn := rfl
@[simp] theorem Decoder.overflowed_secData (d : Decoder) : (d.overflowed).secData = d.secData := rfl
@[simp] theorem Decoder.overflowed_secInst (d : Decoder) : (d.overflowed).secInst = d.secInst := rfl
@[simp] theorem Decoder.overflowed_secAddr (d : Decoder) : (d.overflowed).secAddr = d.secAddr := rfl
@[simp] theorem Decoder.overflowed_carry (d : Decoder) : (d.overflowed).carry = d.carry := rfl
@[simp] theorem Decoder.overflowed_decoded (d : Decoder) : (d.overflowed).decoded = d.decoded := rfl
@[simp] theorem Decoder.overflowed_tgtOut (d : Decoder) : (d.overflowed).tgtOut = d.tgtOut := rfl
@[simp] theorem Decoder.overflowed_ibuf (d : Decoder) : (d.overflowed).ibuf = d.ibuf := rfl
@[simp] theorem Decoder.overflowed_iend (d : Decoder) : (d.overflowed).iend = d.iend := rfl
@[simp] theorem Decoder.overflowed_win (d : Decoder) : (d.overflowed).win = d.win := rfl
@[simp] theorem Decoder.overflowed_dpos (d : Decoder) : (d.overflowed).dpos = d.dpos := rfl
@[simp] theorem Decoder.overflowed_apos (d : Decoder) : (d.overflowed).apos = d.apos := rfl
@[simp] theorem Decoder.overflowed_remaining (d : Decoder) : (d.overflowed).remaining = d.remaining := rfl
@[simp] theorem Decoder.overflowed_pendingInst (d : Decoder) : (d.overflowed).pendingInst = d.pendingInst := rfl
@[simp] theorem Decoder.overflowed_cache (d : Decoder) : (d.overflowed).cache = d.cache := rfl
@[simp] theorem Decoder.overflowed_streamVersion (d : Decoder) : (d.overflowed).streamVersion = d.streamVersion := rfl
@[simp] theorem Decoder.overflowed_inPos (d : Decoder) : (d.overflowed).inPos = d.inPos := rfl
@[simp] theorem Decoder.overflowed_phase (d : Decoder) : (d.overflowed).phase = d.phase := rfl
@[simp] theorem Decoder.overflowed_written (d : Decoder) : (d.overflowed).written = d.written := rfl
@[simp] theorem Decoder.overflowed_failed (d : Decoder) : (d.overflowed).failed = d.failed := rfl
@[simp] theorem Decoder.overflowed_stage (d : Decoder) : (d.overflowed).stage = d.stage := rfl
@[simp] theorem Decoder.overflowed_call (d : Decoder) : (d.overflowed).call = d.call := rfl
@[simp] theorem Decoder.overflowed_frees (d : Decoder) : (d.overflowed).frees = d.frees + 1 := rfl
@[simp] theorem Decoder.advanceTo_cfg (d : Decoder) (rest : Bytes) : (d.advanceTo rest).cfg = d.cfg := rfl
@[simp] theorem Decoder.advanceTo_dict (d : Decoder) (rest : Bytes) : (d.advanceTo rest).dict = d.dict := rfl
@[simp] theorem Decoder.advanceTo_deltaIn (d : Decoder) (rest : Bytes) : (d.advanceTo rest).deltaIn = d.deltaIn := rfl
@[simp] theorem Decoder.advanceTo_secData (d : Decoder) (rest : Bytes) : (d.advanceTo rest).secData = d.secData := rfl
@[simp] theorem Decoder.advanceTo_secInst (d : Decoder) (rest : Bytes) : (d.advanceTo rest).secInst = d.secInst := rfl
@[simp] theorem Decoder.advanceTo_secAddr (d : Decoder) (rest : Bytes) : (d.advanceTo rest).secAddr = d.secAddr := rfl
@[simp] theorem Decoder.advanceTo_carry (d : Decoder) (rest : Bytes) : (d.advanceTo rest).carry = d.carry := rfl
@[simp] theorem Decoder.advanceTo_decoded (d : Decoder) (rest : Bytes) : (d.advanceTo rest).decoded = d.decoded := rfl
@[simp] theorem Decoder.advanceTo_tgtOut (d : Decoder) (rest : Bytes) : (d.advanceTo rest).tgtOut = d.tgtOut := rfl
@[simp] theorem Decoder.advanceTo_ibuf (d : Decoder) (rest : Bytes) : (d.advanceTo rest).ibuf = d.ibuf := rfl
@[simp] theorem Decoder.advanceTo_ipos (d : Decoder) (rest : Bytes) : (d.advanceTo rest).ipos = d.instructions.posAfter rest := rfl
@[simp] theorem Decoder.advanceTo_iend (d : Decoder) (rest : Bytes) : (d.advanceTo rest).iend = d.iend := rfl
@[simp] theorem Decoder.advanceTo_pendingSecond (d : Decoder) (rest : Bytes) : (d.advanceTo rest).pendingSecond = d.pendingSecond := rfl
@[simp] theorem Decoder.advanceTo_win (d : Decoder) (rest : Bytes) : (d.advanceTo rest).win = d.win := rfl
@[simp] theorem Decoder.advanceTo_dpos (d : Decoder) (rest : Bytes) : (d.advanceTo rest).dpos = d.dpos := rfl
@[simp] theorem Decoder.advanceTo_apos (d : Decoder) (rest : Bytes) : (d.advanceTo rest).apos = d.apos := rfl
@[simp] theorem Decoder.advanceTo_remaining (d : Decoder) (rest : Bytes) : (d.advanceTo rest).remaining = d.remaining := rfl
@[simp] theorem Decoder.advanceTo_pendingInst (d : Decoder) (rest : Bytes) : (d.advanceTo rest).pendingInst = d.pendingInst := rfl
@[simp] theorem Decoder.advanceTo_cache (d : Decoder) (rest : Bytes) : (d.advanceTo rest).cache = d.cache := rfl
@[simp] theorem Decoder.advanceTo_streamVersion (d : Decoder) (rest : Bytes) : (d.advanceTo rest).streamVersion = d.streamVersion := rfl
@[simp] theorem Decoder.advanceTo_inPos (d : Decoder) (rest : Bytes) : (d.advanceTo rest).inPos = d.inPos := rfl
@[simp] theorem Decoder.advanceTo_phase (d : Decoder) (rest : Bytes) : (d.advanceTo rest).phase = d.phase := rfl
@[simp] theorem Decoder.advanceTo_written (d : Decoder) (rest : Bytes) : (d.advanceTo rest).written = d.written := rfl
@[simp] theorem Decoder.advanceTo_failed (d : Decoder) (rest : Bytes) : (d.advanceTo rest).failed = d.failed := rfl
@[simp] theorem Decoder.advanceTo_stage (d : Decoder) (rest : Bytes) : (d.advanceTo rest).stage = d.stage := rfl
@[simp] theorem Decoder.advanceTo_call (d : Decoder) (rest : Bytes) : (d.advanceTo rest).call = d.call := rfl
@[simp] theorem Decoder.advanceTo_frees (d : Decoder) (rest : Bytes) : (d.advanceTo rest).frees = d.frees := rfl
@[simp] theorem Decoder.intake_cfg (d : Decoder) : (d.intake).cfg = d.cfg := rfl
@[simp] theorem Decoder.intake_dict (d : Decoder) : (d.intake).dict = d.dict := rfl
@[simp] theorem Decoder.intake_deltaIn (d : Decoder) : (d.intake).deltaIn = d.deltaIn := rfl
@[simp] theorem Decoder.intake_secData (d : Decoder) : (d.intake).secData = d.secData := rfl
@[simp] theorem Decoder.intake_secInst (d : Decoder) : (d.intake).secInst = d.secInst := rfl
@[simp] theorem Decoder.intake_secAddr (d : Decoder) : (d.intake).secAddr = d.secAddr := rfl
@[simp] theorem Decoder.intake_carry (d : Decoder) : (d.intake).carry = d.carry.append (d.deltaIn.slice d.inPos d.arrived) := rfl
@[simp] theorem Decoder.intake_decoded (d : Decoder) : (d.intake).decoded = d.decoded := rfl
@[simp] theorem Decoder.intake_tgtOut (d : Decoder) : (d.intake).tgtOut = d.tgtOut := rfl
@[simp] theorem Decoder.intake_ibuf (d : Decoder) : (d.intake).ibuf = d.ibuf := rfl
@[simp] theorem Decoder.intake_ipos (d : Decoder) : (d.intake).ipos = d.ipos := rfl
@[simp] theorem Decoder.intake_iend (d : Decoder) : (d.intake).iend = d.carry.len + d.arrived := rfl
@[simp] theorem Decoder.intake_pendingSecond (d : Decoder) : (d.intake).pendingSecond = d.pendingSecond := rfl
@[simp] theorem Decoder.intake_win (d : Decoder) : (d.intake).win = d.win := rfl
@[simp] theorem Decoder.intake_dpos (d : Decoder) : (d.intake).dpos = d.dpos := rfl
@[simp] theorem Decoder.intake_apos (d : Decoder) : (d.intake).apos = d.apos := rfl
@[simp] theorem Decoder.intake_remaining (d : Decoder) : (d.intake).remaining = d.remaining - d.arrived := rfl
@[simp] theorem Decoder.intake_pendingInst (d : Decoder) : (d.intake).pendingInst = d.pendingInst := rfl
@[simp] theorem Decoder.intake_cache (d : Decoder) : (d.intake).cache = d.cache := rfl
@[simp] theorem Decoder.intake_streamVersion (d : Decoder) : (d.intake).streamVersion = d.streamVersion := rfl
@[simp] theorem Decoder.intake_inPos (d : Decoder) : (d.intake).inPos = d.inPos + d.arrived := rfl
@[simp] theorem Decoder.intake_phase (d : Decoder) : (d.intake).phase = d.phase := rfl
@[simp] theorem Decoder.intake_written (d : Decoder) : (d.intake).written = d.written := rfl
@[simp] theorem Decoder.intake_failed (d : Decoder) : (d.intake).failed = d.failed := rfl
@[simp] theorem Decoder.intake_stage (d : Decoder) : (d.intake).stage = d.stage := rfl
@[simp] theorem Decoder.intake_call (d : Decoder) : (d.intake).call = d.call := rfl
@[simp] theorem Decoder.intake_frees (d : Decoder) : (d.intake).frees = d.frees := rfl
@[simp] theorem Decoder.enterBody_cfg (d : Decoder) : (d.enterBody).cfg = d.cfg := by
  unfold Decoder.enterBody; split <;> rfl
@[simp] theorem Decoder.enterBody_dict (d : Decoder) : (d.enterBody).dict = d.dict := by
  unfold Decoder.enterBody; split <;> rfl
@[simp] theorem Decoder.enterBody_deltaIn (d : Decoder) : (d.enterBody).deltaIn = d.deltaIn := by
  unfold Decoder.enterBody; split <;> rfl
@[simp] theorem Decoder.enterBody_secData (d : Decoder) : (d.enterBody).secData = d.secData := by
  unfold Decoder.enterBody; split <;> rfl
@[simp] theorem Decoder.enterBody_secInst (d : Decoder) : (d.enterBody).secInst = d.secInst := by
  unfold Decoder.enterBody; split <;> rfl
@[simp] theorem Decoder.enterBody_secAddr (d : Decoder) : (d.enterBody).secAddr = d.secAddr := by
  unfold Decoder.enterBody; split <;> rfl
@[simp] theorem Decoder.enterBody_decoded (d : Decoder) : (d.enterBody).decoded = d.decoded := by
  unfold Decoder.enterBody; split <;> rfl
@[simp] theorem Decoder.enterBody_tgtOut (d : Decoder) : (d.enterBody).tgtOut = d.tgtOut := by
  unfold Decoder.enterBody; split <;> rfl
@[simp] theorem Decoder.enterBody_ibuf (d : Decoder) : (d.enterBody).ibuf = d.ibuf := by
  unfold Decoder.enterBody; split <;> rfl
@[simp] theorem Decoder.enterBody_ipos (d : Decoder) : (d.enterBody).ipos = d.ipos := by
  unfold Decoder.enterBody; split <;> rfl
@[simp] theorem Decoder.enterBody_pendingSecond (d : Decoder) : (d.enterBody).pendingSecond = d.pendingSecond := by
  unfold Decoder.enterBody; split <;> rfl
@[simp] theorem Decoder.enterBody_win (d : Decoder) : (d.enterBody).win = d.win := by
  unfold Decoder.enterBody; split <;> rfl
@[simp] theorem Decoder.enterBody_dpos (d : Decoder) : (d.enterBody).dpos = d.dpos := by
  unfold Decoder.enterBody; split <;> rfl
@[simp] theorem Decoder.enterBody_apos (d : Decoder) : (d.enterBody).apos = d.apos := by
  unfold Decoder.enterBody; split <;> rfl
@[simp] theorem Decoder.enterBody_pendingInst (d : Decoder) : (d.enterBody).pendingInst = d.pendingInst := by
  unfold Decoder.enterBody; split <;> rfl
@[simp] theorem Decoder.enterBody_cache (d : Decoder) : (d.enterBody).cache = d.cache := by
  unfold Decoder.enterBody; split <;> rfl
@[simp] theorem Decoder.enterBody_streamVersion (d : Decoder) : (d.enterBody).streamVersion = d.streamVersion := by
  unfold Decoder.enterBody; split <;> rfl
@[simp] theorem Decoder.enterBody_phase (d : Decoder) : (d.enterBody).phase = d.phase := by
  unfold Decoder.enterBody; split <;> rfl
@[simp] theorem Decoder.enterBody_written (d : Decoder) : (d.enterBody).written = d.written := by
  unfold Decoder.enterBody; split <;> rfl
@[simp] theorem Decoder.enterBody_failed (d : Decoder) : (d.enterBody).failed = d.failed := by
  unfold Decoder.enterBody; split <;> rfl
@[simp] theorem Decoder.enterBody_stage (d : Decoder) : (d.enterBody).stage = d.stage := by
  unfold Decoder.enterBody; split <;> rfl
@[simp] theorem Decoder.enterBody_call (d : Decoder) : (d.enterBody).call = d.call := by
  unfold Decoder.enterBody; split <;> rfl
@[simp] theorem Decoder.enterBody_frees (d : Decoder) : (d.enterBody).frees = d.frees := by
  unfold Decoder.enterBody; split <;> rfl
@[simp] theorem Decoder.beginCall_cfg (d : Decoder) (bytes : Bytes) : (d.beginCall bytes).cfg = d.cfg := by
  unfold Decoder.beginCall; simp only; split <;> simp
@[simp] theorem Decoder.beginCall_dict (d : Decoder) (bytes : Bytes) : (d.beginCall bytes).dict = d.dict := by
  unfold Decoder.beginCall; simp only; split <;> simp
@[simp] theorem Decoder.beginCall_deltaIn (d : Decoder) (bytes : Bytes) : (d.beginCall bytes).deltaIn = d.deltaIn.append bytes := by
  unfold Decoder.beginCall; simp only; split <;> simp
@[simp] theorem Decoder.beginCall_secData (d : Decoder) (bytes : Bytes) : (d.beginCall bytes).secData = d.secData := by
  unfold Decoder.beginCall; simp only; split <;> simp
@[simp] theorem Decoder.beginCall_secInst (d : Decoder) (bytes : Bytes) : (d.beginCall bytes).secInst = d.secInst := by
  unfold Decoder.beginCall; simp only; split <;> simp
@[simp] theorem Decoder.beginCall_secAddr (d : Decoder) (bytes : Bytes) : (d.beginCall bytes).secAddr = d.secAddr := by
  unfold Decoder.beginCall; simp only; split <;> simp
@[simp] theorem Decoder.beginCall_decoded (d : Decoder) (bytes : Bytes) : (d.beginCall bytes).decoded = d.decoded := by
  unfold Decoder.beginCall; simp only; split <;> simp
@[simp] theorem Decoder.beginCall_tgtOut (d : Decoder) (bytes : Bytes) : (d.beginCall bytes).tgtOut = d.tgtOut := by
  unfold Decoder.beginCall; simp only; split <;> simp
@[simp] theorem Decoder.beginCall_ibuf (d : Decoder) (bytes : Bytes) : (d.beginCall bytes).ibuf = d.ibuf := by
  unfold Decoder.beginCall; simp only; split <;> simp
@[simp] theorem Decoder.beginCall_ipos (d : Decoder) (bytes : Bytes) : (d.beginCall bytes).ipos = d.ipos := by
  unfold Decoder.beginCall; simp only; split <;> simp
@[simp] theorem Decoder.beginCall_pendingSecond (d : Decoder) (bytes : Bytes) : (d.beginCall bytes).pendingSecond = d.pendingSecond := by
  unfold Decoder.beginCall; simp only; split <;> simp
@[simp] theorem Decoder.beginCall_win (d : Decoder) (bytes : Bytes) : (d.beginCall bytes).win = d.win := by
  unfold Decoder.beginCall; simp only; split <;> simp
@[simp] theorem Decoder.beginCall_dpos (d : Decoder) (bytes : Bytes) : (d.beginCall bytes).dpos = d.dpos := by
  unfold Decoder.beginCall; simp only; split <;> simp
@[simp] theorem Decoder.beginCall_apos (d : Decoder) (bytes : Bytes) : (d.beginCall bytes).apos = d.apos := by
  unfold Decoder.beginCall; simp only; split <;> simp
@[simp] theorem Decoder.beginCall_pendingInst (d : Decoder) (bytes : Bytes) : (d.beginCall bytes).pendingInst = d.pendingInst := by
  unfold Decoder.beginCall; simp only; split <;> simp
@[simp] theorem Decoder.beginCall_cache (d : Decoder) (bytes : Bytes) : (d.beginCall bytes).cache = d.cache := by
  unfold Decoder.beginCall; simp only; split <;> simp
@[simp] theorem Decoder.beginCall_streamVersion (d : Decoder) (bytes : Bytes) : (d.beginCall bytes).streamVersion = d.streamVersion := by
  unfold Decoder.beginCall; simp only; split <;> simp
@[simp] theorem Decoder.beginCall_phase (d : Decoder) (bytes : Bytes) : (d.beginCall bytes).phase = d.phase := by
  unfold Decoder.beginCall; simp only; split <;> simp
@[simp] theorem Decoder.beginCall_written (d : Decoder) (bytes : Bytes) : (d.beginCall bytes).written = d.written := by
  unfold Decoder.beginCall; simp only; split <;> simp
@[simp] theorem Decoder.beginCall_failed (d : Decoder) (bytes : Bytes) : (d.beginCall bytes).failed = d.failed := by
  unfold Decoder.beginCall; simp only; split <;> simp
@[simp] theorem Decoder.beginCall_stage (d : Decoder) (bytes : Bytes) : (d.beginCall bytes).stage = d.stage := by
  unfold Decoder.beginCall; simp only; split <;> simp
@[simp] theorem Decoder.beginCall_call (d : Decoder) (bytes : Bytes) : (d.beginCall bytes).call = some (.decodeCall d.written) := by
  unfold Decoder.beginCall; simp only; split <;> simp
@[simp] theorem Decoder.beginCall_frees (d : Decoder) (bytes : Bytes) : (d.beginCall bytes).frees = d.frees := by
  unfold Decoder.beginCall; simp only; split <;> simp
@[simp] theorem Decoder.commitWindow_cfg (d : Decoder) (w : ParsedWindow) (rest : Bytes) : (d.commitWindow w rest).cfg = d.cfg := by
  unfold Decoder.commitWindow; split <;> rfl
@[simp] theorem Decoder.commitWindow_dict (d : Decoder) (w : ParsedWindow) (rest : Bytes) : (d.commitWindow w rest).dict = d.dict := by
  unfold Decoder.commitWindow; split <;> rfl
@[simp] theorem Decoder.commitWindow_deltaIn (d : Decoder) (w : ParsedWindow) (rest : Bytes) : (d.commitWindow w rest).deltaIn = d.deltaIn := by
  unfold Decoder.commitWindow; split <;> rfl
@[simp] theorem Decoder.commitWindow_carry (d : Decoder) (w : ParsedWindow) (rest : Bytes) : (d.commitWindow w rest).carry = d.carry := by
  unfold Decoder.commitWindow; split <;> rfl
@[simp] theorem Decoder.commitWindow_decoded (d : Decoder) (w : ParsedWindow) (rest : Bytes) : (d.commitWindow w rest).decoded = d.decoded := by
  unfold Decoder.commitWindow; split <;> rfl
@[simp] theorem Decoder.commitWindow_tgtOut (d : Decoder) (w : ParsedWindow) (rest : Bytes) : (d.commitWindow w rest).tgtOut = d.tgtOut := by
  unfold Decoder.commitWindow; split <;> rfl
@[simp] theorem Decoder.commitWindow_ibuf (d : Decoder) (w : ParsedWindow) (rest : Bytes) : (d.commitWindow w rest).ibuf = d.ibuf := by
  unfold Decoder.commitWindow; split <;> rfl
@[simp] theorem Decoder.commitWindow_ipos (d : Decoder) (w : ParsedWindow) (rest : Bytes) : (d.commitWindow w rest).ipos = d.ipos := by
  unfold Decoder.commitWindow; split <;> rfl
@[simp] theorem Decoder.commitWindow_iend (d : Decoder) (w : ParsedWindow) (rest : Bytes) : (d.commitWindow w rest).iend = d.iend := by
  unfold Decoder.commitWindow; split <;> rfl
@[simp] theorem Decoder.commitWindow_pendingSecond (d : Decoder) (w : ParsedWindow) (rest : Bytes) : (d.commitWindow w rest).pendingSecond = d.pendingSecond := by
  unfold Decoder.commitWindow; split <;> rfl
@[simp] theorem Decoder.commitWindow_win (d : Decoder) (w : ParsedWindow) (rest : Bytes) : (d.commitWindow w rest).win = { w.header with checksum := w.checksum.getD d.win.checksum } := by
  unfold Decoder.commitWindow; split <;> rfl
@[simp] theorem Decoder.commitWindow_dpos (d : Decoder) (w : ParsedWindow) (rest : Bytes) : (d.commitWindow w rest).dpos = d.dpos := by
  unfold Decoder.commitWindow; split <;> rfl
@[simp] theorem Decoder.commitWindow_apos (d : Decoder) (w : ParsedWindow) (rest : Bytes) : (d.commitWindow w rest).apos = d.apos := by
  unfold Decoder.commitWindow; split <;> rfl
@[simp] theorem Decoder.commitWindow_remaining (d : Decoder) (w : ParsedWindow) (rest : Bytes) : (d.commitWindow w rest).remaining = d.remaining := by
  unfold Decoder.commitWindow; split <;> rfl
@[simp] theorem Decoder.commitWindow_pendingInst (d : Decoder) (w : ParsedWindow) (rest : Bytes) : (d.commitWindow w rest).pendingInst = d.pendingInst := by
  unfold Decoder.commitWindow; split <;> rfl
@[simp] theorem Decoder.commitWindow_cache (d : Decoder) (w : ParsedWindow) (rest : Bytes) : (d.commitWindow w rest).cache = d.cache := by
  unfold Decoder.commitWindow; split <;> rfl
@[simp] theorem Decoder.commitWindow_streamVersion (d : Decoder) (w : ParsedWindow) (rest : Bytes) : (d.commitWindow w rest).streamVersion = d.streamVersion := by
  unfold Decoder.commitWindow; split <;> rfl
@[simp] theorem Decoder.commitWindow_inPos (d : Decoder) (w : ParsedWindow) (rest : Bytes) : (d.commitWindow w rest).inPos = d.inPos + (d.unread.length - rest.length) := by
  unfold Decoder.commitWindow; split <;> rfl
@[simp] theorem Decoder.commitWindow_phase (d : Decoder) (w : ParsedWindow) (rest : Bytes) : (d.commitWindow w rest).phase = d.phase := by
  unfold Decoder.commitWindow; split <;> rfl
@[simp] theorem Decoder.commitWindow_written (d : Decoder) (w : ParsedWindow) (rest : Bytes) : (d.commitWindow w rest).written = d.written := by
  unfold Decoder.commitWindow; split <;> rfl
@[simp] theorem Decoder.commitWindow_failed (d : Decoder) (w : ParsedWindow) (rest : Bytes) : (d.commitWindow w rest).failed = d.failed := by
  unfold Decoder.commitWindow; split <;> rfl
@[simp] theorem Decoder.commitWindow_stage (d : Decoder) (w : ParsedWindow) (rest : Bytes) : (d.commitWindow w rest).stage = .parsed := by
  unfold Decoder.commitWindow; split <;> rfl
@[simp] theorem Decoder.commitWindow_call (d : Decoder) (w : ParsedWindow) (rest : Bytes) : (d.commitWindow w rest).call = d.call := by
  unfold Decoder.commitWindow; split <;> rfl
@[simp] theorem Decoder.commitWindow_frees (d : Decoder) (w : ParsedWindow) (rest : Bytes) : (d.commitWindow w rest).frees = d.frees := by
  unfold Decoder.commitWindow; split <;> rfl

/-! ### Taking an error, waiting, and the ends of an operation -/

@[simp] theorem State.raise_encode (s : State) (c : Cause) : s.raise .encode c = s.raiseEncode c := rfl
@[simp] theorem State.raise_decode (s : State) (c : Cause) : s.raise .decode c = s.raiseDecode c := rfl
@[simp] theorem State.raiseEncode_ops (s : State) (c : Cause) : (s.raiseEncode c).ops = s.ops := rfl
@[simp] theorem State.raiseEncode_dec (s : State) (c : Cause) : (s.raiseEncode c).dec = s.dec := rfl
@[simp] theorem State.raiseEncode_last (s : State) (c : Cause) : (s.raiseEncode c).last = some (errorReply c) := rfl
@[simp] theorem State.raiseEncode_enc_cfg (s : State) (c : Cause) : (s.raiseEncode c).enc.cfg = s.enc.cfg := rfl
@[simp] theorem State.raiseEncode_enc_dict (s : State) (c : Cause) : (s.raiseEncode c).enc.dict = s.enc.dict := rfl
@[simp] theorem State.raiseEncode_enc_tgtIn (s : State) (c : Cause) : (s.raiseEncode c).enc.tgtIn = s.enc.tgtIn := rfl
@[simp] theorem State.raiseEncode_enc_removeTable (s : State) (c : Cause) : (s.raiseEncode c).enc.removeTable = s.enc.removeTable := rfl
@[simp] theorem State.raiseEncode_enc_hashReady (s : State) (c : Cause) : (s.raiseEncode c).enc.hashReady = s.enc.hashReady := rfl
@[simp] theorem State.raiseEncode_enc_index (s : State) (c : Cause) : (s.raiseEncode c).enc.index = s.enc.index := rfl
@[simp] theorem State.raiseEncode_enc_map (s : State) (c : Cause) : (s.raiseEncode c).enc.map = s.enc.map := rfl
@[simp] theorem State.raiseEncode_enc_parser (s : State) (c : Cause) : (s.raiseEncode c).enc.parser = s.enc.parser := rfl
@[simp] theorem State.raiseEncode_enc_ws (s : State) (c : Cause) : (s.raiseEncode c).enc.ws = s.enc.ws := rfl
@[simp] theorem State.raiseEncode_enc_deltaOut (s : State) (c : Cause) : (s.raiseEncode c).enc.deltaOut = s.enc.deltaOut := rfl
@[simp] theorem State.raiseEncode_enc_failed (s : State) (c : Cause) : (s.raiseEncode c).enc.failed = some (s.enc.failed.getD c) := rfl
@[simp] theorem State.raiseEncode_enc_headerDone (s : State) (c : Cause) : (s.raiseEncode c).enc.headerDone = s.enc.headerDone := rfl
@[simp] theorem State.raiseEncode_enc_frees (s : State) (c : Cause) : (s.raiseEncode c).enc.frees = s.enc.frees := rfl
@[simp] theorem State.raiseDecode_ops (s : State) (c : Cause) : (s.raiseDecode c).ops = s.ops := rfl
@[simp] theorem State.raiseDecode_enc (s : State) (c : Cause) : (s.raiseDecode c).enc = s.enc := rfl
@[simp] theorem State.raiseDecode_last (s : State) (c : Cause) : (s.raiseDecode c).last = some (s.dec.errorReply c) := rfl
@[simp] theorem State.raiseDecode_dec_cfg (s : State) (c : Cause) : (s.raiseDecode c).dec.cfg = s.dec.cfg := rfl
@[simp] theorem State.raiseDecode_dec_dict (s : State) (c : Cause) : (s.raiseDecode c).dec.dict = s.dec.dict := rfl
@[simp] theorem State.raiseDecode_dec_deltaIn (s : State) (c : Cause) : (s.raiseDecode c).dec.deltaIn = s.dec.deltaIn := rfl
@[simp] theorem State.raiseDecode_dec_secData (s : State) (c : Cause) : (s.raiseDecode c).dec.secData = s.dec.secData := rfl
@[simp] theorem State.raiseDecode_dec_secInst (s : State) (c : Cause) : (s.raiseDecode c).dec.secInst = s.dec.secInst := rfl
@[simp] theorem State.raiseDecode_dec_secAddr (s : State) (c : Cause) : (s.raiseDecode c).dec.secAddr = s.dec.secAddr := rfl
@[simp] theorem State.raiseDecode_dec_carry (s : State) (c : Cause) : (s.raiseDecode c).dec.carry = s.dec.carry := rfl
@[simp] theorem State.raiseDecode_dec_decoded (s : State) (c : Cause) : (s.raiseDecode c).dec.decoded = s.dec.decoded := rfl
@[simp] theorem State.raiseDecode_dec_tgtOut (s : State) (c : Cause) : (s.raiseDecode c).dec.tgtOut = s.dec.tgtOut := rfl
@[simp] theorem State.raiseDecode_dec_ibuf (s : State) (c : Cause) : (s.raiseDecode c).dec.ibuf = s.dec.ibuf := rfl
@[simp] theorem State.raiseDecode_dec_ipos (s : State) (c : Cause) : (s.raiseDecode c).dec.ipos = s.dec.ipos := rfl
@[simp] theorem State.raiseDecode_dec_iend (s : State) (c : Cause) : (s.raiseDecode c).dec.iend = s.dec.iend := rfl
@[simp] theorem State.raiseDecode_dec_pendingSecond (s : State) (c : Cause) : (s.raiseDecode c).dec.pendingSecond = s.dec.pendingSecond := rfl
@[simp] theorem State.raiseDecode_dec_win (s : State) (c : Cause) : (s.raiseDecode c).dec.win = s.dec.win := rfl
@[simp] theorem State.raiseDecode_dec_dpos (s : State) (c : Cause) : (s.raiseDecode c).dec.dpos = s.dec.dpos := rfl
@[simp] theorem State.raiseDecode_dec_apos (s : State) (c : Cause) : (s.raiseDecode c).dec.apos = s.dec.apos := rfl
@[simp] theorem State.raiseDecode_dec_remaining (s : State) (c : Cause) : (s.raiseDecode c).dec.remaining = s.dec.remaining := rfl
@[simp] theorem State.raiseDecode_dec_pendingInst (s : State) (c : Cause) : (s.raiseDecode c).dec.pendingInst = s.dec.pendingInst := rfl
@[simp] theorem State.raiseDecode_dec_cache (s : State) (c : Cause) : (s.raiseDecode c).dec.cache = s.dec.cache := rfl
@[simp] theorem State.raiseDecode_dec_streamVersion (s : State) (c : Cause) : (s.raiseDecode c).dec.streamVersion = s.dec.streamVersion := rfl
@[simp] theorem State.raiseDecode_dec_inPos (s : State) (c : Cause) : (s.raiseDecode c).dec.inPos = s.dec.inPos := rfl
@[simp] theorem State.raiseDecode_dec_phase (s : State) (c : Cause) : (s.raiseDecode c).dec.phase = s.dec.phase := rfl
@[simp] theorem State.raiseDecode_dec_written (s : State) (c : Cause) : (s.raiseDecode c).dec.written = s.dec.written := rfl
@[simp] theorem State.raiseDecode_dec_failed (s : State) (c : Cause) : (s.raiseDecode c).dec.failed = some (s.dec.failed.getD c) := rfl
@[simp] theorem State.raiseDecode_dec_stage (s : State) (c : Cause) : (s.raiseDecode c).dec.stage = s.dec.stage := rfl
@[simp] theorem State.raiseDecode_dec_call (s : State) (c : Cause) : (s.raiseDecode c).dec.call = none := rfl
@[simp] theorem State.raiseDecode_dec_frees (s : State) (c : Cause) : (s.raiseDecode c).dec.frees = s.dec.frees := rfl
@[simp] theorem State.suspend_ops (s : State) : (s.suspend).ops = s.ops := rfl
@[simp] theorem State.suspend_enc (s : State) : (s.suspend).enc = s.enc := rfl
@[simp] theorem State.suspend_dec_cfg (s : State) : (s.suspend).dec.cfg = s.dec.cfg := rfl
@[simp] theorem State.suspend_dec_dict (s : State) : (s.suspend).dec.dict = s.dec.dict := rfl
@[simp] theorem State.suspend_dec_deltaIn (s : State) : (s.suspend).dec.deltaIn = s.dec.deltaIn := rfl
@[simp] theorem State.suspend_dec_secData (s : State) : (s.suspend).dec.secData = s.dec.secData := rfl
@[simp] theorem State.suspend_dec_secInst (s : State) : (s.suspend).dec.secInst = s.dec.secInst := rfl
@[simp] theorem State.suspend_dec_secAddr (s : State) : (s.suspend).dec.secAddr = s.dec.secAddr := rfl
@[simp] theorem State.suspend_dec_carry (s : State) : (s.suspend).dec.carry = s.dec.carry := rfl
@[simp] theorem State.suspend_dec_decoded (s : State) : (s.suspend).dec.decoded = s.dec.decoded := rfl
@[simp] theorem State.suspend_dec_tgtOut (s : State) : (s.suspend).dec.tgtOut = s.dec.tgtOut := rfl
@[simp] theorem State.suspend_dec_ibuf (s : State) : (s.suspend).dec.ibuf = s.dec.ibuf := rfl
@[simp] theorem State.suspend_dec_ipos (s : State) : (s.suspend).dec.ipos = s.dec.ipos := rfl
@[simp] theorem State.suspend_dec_iend (s : State) : (s.suspend).dec.iend = s.dec.iend := rfl
@[simp] theorem State.suspend_dec_pendingSecond (s : State) : (s.suspend).dec.pendingSecond = s.dec.pendingSecond := rfl
@[simp] theorem State.suspend_dec_win (s : State) : (s.suspend).dec.win = s.dec.win := rfl
@[simp] theorem State.suspend_dec_dpos (s : State) : (s.suspend).dec.dpos = s.dec.dpos := rfl
@[simp] theorem State.suspend_dec_apos (s : State) : (s.suspend).dec.apos = s.dec.apos := rfl
@[simp] theorem State.suspend_dec_remaining (s : State) : (s.suspend).dec.remaining = s.dec.remaining := rfl
@[simp] theorem State.suspend_dec_pendingInst (s : State) : (s.suspend).dec.pendingInst = s.dec.pendingInst := rfl
@[simp] theorem State.suspend_dec_cache (s : State) : (s.suspend).dec.cache = s.dec.cache := rfl
@[simp] theorem State.suspend_dec_streamVersion (s : State) : (s.suspend).dec.streamVersion = s.dec.streamVersion := rfl
@[simp] theorem State.suspend_dec_inPos (s : State) : (s.suspend).dec.inPos = s.dec.inPos := rfl
@[simp] theorem State.suspend_dec_phase (s : State) : (s.suspend).dec.phase = s.dec.phase := rfl
@[simp] theorem State.suspend_dec_written (s : State) : (s.suspend).dec.written = s.dec.written := rfl
@[simp] theorem State.suspend_dec_failed (s : State) : (s.suspend).dec.failed = s.dec.failed := rfl
@[simp] theorem State.suspend_dec_stage (s : State) : (s.suspend).dec.stage = s.dec.stage := rfl
@[simp] theorem State.suspend_dec_call (s : State) : (s.suspend).dec.call = none := rfl
@[simp] theorem State.suspend_dec_frees (s : State) : (s.suspend).dec.frees = s.dec.frees := rfl
@[simp] theorem State.callSuccess_ops (s : State) (w0 : Nat) : (s.callSuccess w0).ops = s.ops := rfl
@[simp] theorem State.callSuccess_enc (s : State) (w0 : Nat) : (s.callSuccess w0).enc = s.enc := rfl
@[simp] theorem State.callSuccess_last (s : State) (w0 : Nat) : (s.callSuccess w0).last = some (.call .success (s.dec.written - w0)) := rfl
@[simp] theorem State.callSuccess_dec_cfg (s : State) (w0 : Nat) : (s.callSuccess w0).dec.cfg = s.dec.cfg := rfl
@[simp] theorem State.callSuccess_dec_dict (s : State) (w0 : Nat) : (s.callSuccess w0).dec.dict = s.dec.dict := rfl
@[simp] theorem State.callSuccess_dec_deltaIn (s : State) (w0 : Nat) : (s.callSuccess w0).dec.deltaIn = s.dec.deltaIn := rfl
@[simp] theorem State.callSuccess_dec_secData (s : State) (w0 : Nat) : (s.callSuccess w0).dec.secData = s.dec.secData := rfl
@[simp] theorem State.callSuccess_dec_secInst (s : State) (w0 : Nat) : (s.callSuccess w0).dec.secInst = s.dec.secInst := rfl
@[simp] theorem State.callSuccess_dec_secAddr (s : State) (w0 : Nat) : (s.callSuccess w0).dec.secAddr = s.dec.secAddr := rfl
@[simp] theorem State.callSuccess_dec_carry (s : State) (w0 : Nat) : (s.callSuccess w0).dec.carry = s.dec.carry := rfl
@[simp] theorem State.callSuccess_dec_decoded (s : State) (w0 : Nat) : (s.callSuccess w0).dec.decoded = s.dec.decoded := rfl
@[simp] theorem State.callSuccess_dec_tgtOut (s : State) (w0 : Nat) : (s.callSuccess w0).dec.tgtOut = s.dec.tgtOut := rfl
@[simp] theorem State.callSuccess_dec_ibuf (s : State) (w0 : Nat) : (s.callSuccess w0).dec.ibuf = s.dec.ibuf := rfl
@[simp] theorem State.callSuccess_dec_ipos (s : State) (w0 : Nat) : (s.callSuccess w0).dec.ipos = s.dec.ipos := rfl
@[simp] theorem State.callSuccess_dec_iend (s : State) (w0 : Nat) : (s.callSuccess w0).dec.iend = s.dec.iend := rfl
@[simp] theorem State.callSuccess_dec_pendingSecond (s : State) (w0 : Nat) : (s.callSuccess w0).dec.pendingSecond = s.dec.pendingSecond := rfl
@[simp] theorem State.callSuccess_dec_win (s : State) (w0 : Nat) : (s.callSuccess w0).dec.win = s.dec.win := rfl
@[simp] theorem State.callSuccess_dec_dpos (s : State) (w0 : Nat) : (s.callSuccess w0).dec.dpos = s.dec.dpos := rfl
@[simp] theorem State.callSuccess_dec_apos (s : State) (w0 : Nat) : (s.callSuccess w0).dec.apos = s.dec.apos := rfl
@[simp] theorem State.callSuccess_dec_remaining (s : State) (w0 : Nat) : (s.callSuccess w0).dec.remaining = s.dec.remaining := rfl
@[simp] theorem State.callSuccess_dec_pendingInst (s : State) (w0 : Nat) : (s.callSuccess w0).dec.pendingInst = s.dec.pendingInst := rfl
@[simp] theorem State.callSuccess_dec_cache (s : State) (w0 : Nat) : (s.callSuccess w0).dec.cache = s.dec.cache := rfl
@[simp] theorem State.callSuccess_dec_streamVersion (s : State) (w0 : Nat) : (s.callSuccess w0).dec.streamVersion = s.dec.streamVersion := rfl
@[simp] theorem State.callSuccess_dec_inPos (s : State) (w0 : Nat) : (s.callSuccess w0).dec.inPos = s.dec.inPos := rfl
@[simp] theorem State.callSuccess_dec_phase (s : State) (w0 : Nat) : (s.callSuccess w0).dec.phase = s.dec.phase := rfl
@[simp] theorem State.callSuccess_dec_written (s : State) (w0 : Nat) : (s.callSuccess w0).dec.written = s.dec.written := rfl
@[simp] theorem State.callSuccess_dec_failed (s : State) (w0 : Nat) : (s.callSuccess w0).dec.failed = s.dec.failed := rfl
@[simp] theorem State.callSuccess_dec_stage (s : State) (w0 : Nat) : (s.callSuccess w0).dec.stage = s.dec.stage := rfl
@[simp] theorem State.callSuccess_dec_call (s : State) (w0 : Nat) : (s.callSuccess w0).dec.call = none := rfl
@[simp] theorem State.callSuccess_dec_frees (s : State) (w0 : Nat) : (s.callSuccess w0).dec.frees = s.dec.frees := rfl
@[simp] theorem State.windowDone_ops (s : State) (d : Decoder) : (s.windowDone d).ops = s.ops := by
  unfold State.windowDone; split <;> rfl
@[simp] theorem State.windowDone_enc (s : State) (d : Decoder) : (s.windowDone d).enc = s.enc := by
  unfold State.windowDone; split <;> rfl
@[simp] theorem State.windowDone_dec_cfg (s : State) (d : Decoder) : (s.windowDone d).dec.cfg = d.cfg := by
  unfold State.windowDone; split <;> rfl
@[simp] theorem State.windowDone_dec_dict (s : State) (d : Decoder) : (s.windowDone d).dec.dict = d.dict := by
  unfold State.windowDone; split <;> rfl
@[simp] theorem State.windowDone_dec_deltaIn (s : State) (d : Decoder) : (s.windowDone d).dec.deltaIn = d.deltaIn := by
  unfold State.windowDone; split <;> rfl
@[simp] theorem State.windowDone_dec_secData (s : State) (d : Decoder) : (s.windowDone d).dec.secData = d.secData := by
  unfold State.windowDone; split <;> rfl
@[simp] theorem State.windowDone_dec_secInst (s : State) (d : Decoder) : (s.windowDone d).dec.secInst = d.secInst := by
  unfold State.windowDone; split <;> rfl
@[simp] theorem State.windowDone_dec_secAddr (s : State) (d : Decoder) : (s.windowDone d).dec.secAddr = d.secAddr := by
  unfold State.windowDone; split <;> rfl
@[simp] theorem State.windowDone_dec_carry (s : State) (d : Decoder) : (s.windowDone d).dec.carry = d.carry := by
  unfold State.windowDone; split <;> rfl
@[simp] theorem State.windowDone_dec_decoded (s : State) (d : Decoder) : (s.windowDone d).dec.decoded = d.decoded := by
  unfold State.windowDone; split <;> rfl
@[simp] theorem State.windowDone_dec_tgtOut (s : State) (d : Decoder) : (s.windowDone d).dec.tgtOut = d.tgtOut := by
  unfold State.windowDone; split <;> rfl
@[simp] theorem State.windowDone_dec_ibuf (s : State) (d : Decoder) : (s.windowDone d).dec.ibuf = d.ibuf := by
  unfold State.windowDone; split <;> rfl
@[simp] theorem State.windowDone_dec_ipos (s : State) (d : Decoder) : (s.windowDone d).dec.ipos = d.ipos := by
  unfold State.windowDone; split <;> rfl
@[simp] theorem State.windowDone_dec_iend (s : State) (d : Decoder) : (s.windowDone d).dec.iend = d.iend := by
  unfold State.windowDone; split <;> rfl
@[simp] theorem State.windowDone_dec_pendingSecond (s : State) (d : Decoder) : (s.windowDone d).dec.pendingSecond = d.pendingSecond := by
  unfold State.windowDone; split <;> rfl
@[simp] theorem State.windowDone_dec_win (s : State) (d : Decoder) : (s.windowDone d).dec.win = d.win := by
  unfold State.windowDone; split <;> rfl
@[simp] theorem State.windowDone_dec_dpos (s : State) (d : Decoder) : (s.windowDone d).dec.dpos = d.dpos := by
  unfold State.windowDone; split <;> rfl
@[simp] theorem State.windowDone_dec_apos (s : State) (d : Decoder) : (s.windowDone d).dec.apos = d.apos := by
  unfold State.windowDone; split <;> rfl
@[simp] theorem State.windowDone_dec_remaining (s : State) (d : Decoder) : (s.windowDone d).dec.remaining = d.remaining := by
  unfold State.windowDone; split <;> rfl
@[simp] theorem State.windowDone_dec_pendingInst (s : State) (d : Decoder) : (s.windowDone d).dec.pendingInst = d.pendingInst := by
  unfold State.windowDone; split <;> rfl
@[simp] theorem State.windowDone_dec_cache (s : State) (d : Decoder) : (s.windowDone d).dec.cache = d.cache := by
  unfold State.windowDone; split <;> rfl
@[simp] theorem State.windowDone_dec_streamVersion (s : State) (d : Decoder) : (s.windowDone d).dec.streamVersion = d.streamVersion := by
  unfold State.windowDone; split <;> rfl
@[simp] theorem State.windowDone_dec_inPos (s : State) (d : Decoder) : (s.windowDone d).dec.inPos = d.inPos := by
  unfold State.windowDone; split <;> rfl
@[simp] theorem State.windowDone_dec_written (s : State) (d : Decoder) : (s.windowDone d).dec.written = d.written := by
  unfold State.windowDone; split <;> rfl
@[simp] theorem State.windowDone_dec_failed (s : State) (d : Decoder) : (s.windowDone d).dec.failed = d.failed := by
  unfold State.windowDone; split <;> rfl
@[simp] theorem State.windowDone_dec_stage (s : State) (d : Decoder) : (s.windowDone d).dec.stage = d.stage := by
  unfold State.windowDone; split <;> rfl
@[simp] theorem State.windowDone_dec_frees (s : State) (d : Decoder) : (s.windowDone d).dec.frees = d.frees := by
  unfold State.windowDone; split <;> rfl

/-! ### The address cache of a session -/

@[simp] theorem State.setCache_encode_ops (s : State) (c : AddrCache) : (s.setCache .encode c).ops = s.ops := rfl
@[simp] theorem State.setCache_encode_last (s : State) (c : AddrCache) : (s.setCache .encode c).last = s.last := rfl
@[simp] theorem State.setCache_encode_dec (s : State) (c : AddrCache) : (s.setCache .encode c).dec = s.dec := rfl
@[simp] theorem State.setCache_encode_enc_cfg (s : State) (c : AddrCache) : (s.setCache .encode c).enc.cfg = s.enc.cfg := rfl
@[simp] theorem State.setCache_encode_enc_dict (s : State) (c : AddrCache) : (s.setCache .encode c).enc.dict = s.enc.dict := rfl
@[simp] theorem State.setCache_encode_enc_tgtIn (s : State) (c : AddrCache) : (s.setCache .encode c).enc.tgtIn = s.enc.tgtIn := rfl
@[simp] theorem State.setCache_encode_enc_removeTable (s : State) (c : AddrCache) : (s.setCache .encode c).enc.removeTable = s.enc.removeTable := rfl
@[simp] theorem State.setCache_encode_enc_hashReady (s : State) (c : AddrCache) : (s.setCache .encode c).enc.hashReady = s.enc.hashReady := rfl
@[simp] theorem State.setCache_encode_enc_index (s : State) (c : AddrCache) : (s.setCache .encode c).enc.index = s.enc.index := rfl
@[simp] theorem State.setCache_encode_enc_map (s : State) (c : AddrCache) : (s.setCache .encode c).enc.map = s.enc.map := rfl
@[simp] theorem State.setCache_encode_enc_parser (s : State) (c : AddrCache) : (s.setCache .encode c).enc.parser = s.enc.parser := rfl
@[simp] theorem State.setCache_encode_enc_deltaOut (s : State) (c : AddrCache) : (s.setCache .encode c).enc.deltaOut = s.enc.deltaOut := rfl
@[simp] theorem State.setCache_encode_enc_failed (s : State) (c : AddrCache) : (s.setCache .encode c).enc.failed = s.enc.failed := rfl
@[simp] theorem State.setCache_encode_enc_headerDone (s : State) (c : AddrCache) : (s.setCache .encode c).enc.headerDone = s.enc.headerDone := rfl
@[simp] theorem State.setCache_encode_enc_frees (s : State) (c : AddrCache) : (s.setCache .encode c).enc.frees = s.enc.frees := rfl
@[simp] theorem State.setCache_encode_ws_dataBuf (s : State) (c : AddrCache) : (s.setCache .encode c).enc.ws.dataBuf = s.enc.ws.dataBuf := rfl
@[simp] theorem State.setCache_encode_ws_instBuf (s : State) (c : AddrCache) : (s.setCache .encode c).enc.ws.instBuf = s.enc.ws.instBuf := rfl
@[simp] theorem State.setCache_encode_ws_addrBuf (s : State) (c : AddrCache) : (s.setCache .encode c).enc.ws.addrBuf = s.enc.ws.addrBuf := rfl
@[simp] theorem State.setCache_encode_ws_lastOpIdx (s : State) (c : AddrCache) : (s.setCache .encode c).enc.ws.lastOpIdx = s.enc.ws.lastOpIdx := rfl
@[simp] theorem State.setCache_encode_ws_targetLen (s : State) (c : AddrCache) : (s.setCache .encode c).enc.ws.targetLen = s.enc.ws.targetLen := rfl
@[simp] theorem State.setCache_encode_ws_dictLen (s : State) (c : AddrCache) : (s.setCache .encode c).enc.ws.dictLen = s.enc.ws.dictLen := rfl
@[simp] theorem State.setCache_encode_ws_cache (s : State) (c : AddrCache) : (s.setCache .encode c).enc.ws.cache = c := rfl
@[simp] theorem State.setCache_encode_ws_ready (s : State) (c : AddrCache) : (s.setCache .encode c).enc.ws.ready = s.enc.ws.ready := rfl
@[simp] theorem State.setCache_decode_ops (s : State) (c : AddrCache) : (s.setCache .decode c).ops = s.ops := rfl
@[simp] theorem State.setCache_decode_last (s : State) (c : AddrCache) : (s.setCache .decode c).last = s.last := rfl
@[simp] theorem State.setCache_decode_enc (s : State) (c : AddrCache) : (s.setCache .decode c).enc = s.enc := rfl
@[simp] theorem State.setCache_decode_dec_cfg (s : State) (c : AddrCache) : (s.setCache .decode c).dec.cfg = s.dec.cfg := rfl
@[simp] theorem State.setCache_decode_dec_dict (s : State) (c : AddrCache) : (s.setCache .decode c).dec.dict = s.dec.dict := rfl
@[simp] theorem State.setCache_decode_dec_deltaIn (s : State) (c : AddrCache) : (s.setCache .decode c).dec.deltaIn = s.dec.deltaIn := rfl
@[simp] theorem State.setCache_decode_dec_secData (s : State) (c : AddrCache) : (s.setCache .decode c).dec.secData = s.dec.secData := rfl
@[simp] theorem State.setCache_decode_dec_secInst (s : State) (c : AddrCache) : (s.setCache .decode c).dec.secInst = s.dec.secInst := rfl
@[simp] theorem State.setCache_decode_dec_secAddr (s : State) (c : AddrCache) : (s.setCache .decode c).dec.secAddr = s.dec.secAddr := rfl
@[simp] theorem State.setCache_decode_dec_carry (s : State) (c : AddrCache) : (s.setCache .decode c).dec.carry = s.dec.carry := rfl
@[simp] theorem State.setCache_decode_dec_decoded (s : State) (c : AddrCache) : (s.setCache .decode c).dec.decoded = s.dec.decoded := rfl
@[simp] theorem State.setCache_decode_dec_tgtOut (s : State) (c : AddrCache) : (s.setCache .decode c).dec.tgtOut = s.dec.tgtOut := rfl
@[simp] theorem State.setCache_decode_dec_ibuf (s : State) (c : AddrCache) : (s.setCache .decode c).dec.ibuf = s.dec.ibuf := rfl
@[simp] theorem State.setCache_decode_dec_ipos (s : State) (c : AddrCache) : (s.setCache .decode c).dec.ipos = s.dec.ipos := rfl
@[simp] theorem State.setCache_decode_dec_iend (s : State) (c : AddrCache) : (s.setCache .decode c).dec.iend = s.dec.iend := rfl
@[simp] theorem State.setCache_decode_dec_pendingSecond (s : State) (c : AddrCache) : (s.setCache .decode c).dec.pendingSecond = s.dec.pendingSecond := rfl
@[simp] theorem State.setCache_decode_dec_win (s : State) (c : AddrCache) : (s.setCache .decode c).dec.win = s.dec.win := rfl
@[simp] theorem State.setCache_decode_dec_dpos (s : State) (c : AddrCache) : (s.setCache .decode c).dec.dpos = s.dec.dpos := rfl
@[simp] theorem State.setCache_decode_dec_apos (s : State) (c : AddrCache) : (s.setCache .decode c).dec.apos = s.dec.apos := rfl
@[simp] theorem State.setCache_decode_dec_remaining (s : State) (c : AddrCache) : (s.setCache .decode c).dec.remaining = s.dec.remaining := rfl
@[simp] theorem State.setCache_decode_dec_pendingInst (s : State) (c : AddrCache) : (s.setCache .decode c).dec.pendingInst = s.dec.pendingInst := rfl
@[simp] theorem State.setCache_decode_dec_cache (s : State) (c : AddrCache) : (s.setCache .decode c).dec.cache = c := rfl
@[simp] theorem State.setCache_decode_dec_streamVersion (s : State) (c : AddrCache) : (s.setCache .decode c).dec.streamVersion = s.dec.streamVersion := rfl
@[simp] theorem State.setCache_decode_dec_inPos (s : State) (c : AddrCache) : (s.setCache .decode c).dec.inPos = s.dec.inPos := rfl
@[simp] theorem State.setCache_decode_dec_phase (s : State) (c : AddrCache) : (s.setCache .decode c).dec.phase = s.dec.phase := rfl
@[simp] theorem State.setCache_decode_dec_written (s : State) (c : AddrCache) : (s.setCache .decode c).dec.written = s.dec.written := rfl
@[simp] theorem State.setCache_decode_dec_failed (s : State) (c : AddrCache) : (s.setCache .decode c).dec.failed = s.dec.failed := rfl
@[simp] theorem State.setCache_decode_dec_stage (s : State) (c : AddrCache) : (s.setCache .decode c).dec.stage = s.dec.stage := rfl
@[simp] theorem State.setCache_decode_dec_call (s : State) (c : AddrCache) : (s.setCache .decode c).dec.call = s.dec.call := rfl
@[simp] theorem State.setCache_decode_dec_frees (s : State) (c : AddrCache) : (s.setCache .decode c).dec.frees = s.dec.frees := rfl

/-! ### Drawing a free value (log 10) -/

@[simp] theorem State.drawn_encode_dec (s : State) : (s.drawn .encode).dec = s.dec := rfl
@[simp] theorem State.drawn_encode_ops (s : State) : (s.drawn .encode).ops = s.ops := rfl
@[simp] theorem State.drawn_encode_last (s : State) : (s.drawn .encode).last = s.last := rfl
@[simp] theorem State.drawn_encode_enc_cfg (s : State) : (s.drawn .encode).enc.cfg = s.enc.cfg := rfl
@[simp] theorem State.drawn_encode_enc_dict (s : State) : (s.drawn .encode).enc.dict = s.enc.dict := rfl
@[simp] theorem State.drawn_encode_enc_tgtIn (s : State) : (s.drawn .encode).enc.tgtIn = s.enc.tgtIn := rfl
@[simp] theorem State.drawn_encode_enc_removeTable (s : State) : (s.drawn .encode).enc.removeTable = s.enc.removeTable := rfl
@[simp] theorem State.drawn_encode_enc_hashReady (s : State) : (s.drawn .encode).enc.hashReady = s.enc.hashReady := rfl
@[simp] theorem State.drawn_encode_enc_index (s : State) : (s.drawn .encode).enc.index = s.enc.index := rfl
@[simp] theorem State.drawn_encode_enc_map (s : State) : (s.drawn .encode).enc.map = s.enc.map := rfl
@[simp] theorem State.drawn_encode_enc_parser (s : State) : (s.drawn .encode).enc.parser = s.enc.parser := rfl
@[simp] theorem State.drawn_encode_enc_ws (s : State) : (s.drawn .encode).enc.ws = s.enc.ws := rfl
@[simp] theorem State.drawn_encode_enc_deltaOut (s : State) : (s.drawn .encode).enc.deltaOut = s.enc.deltaOut := rfl
@[simp] theorem State.drawn_encode_enc_headerDone (s : State) : (s.drawn .encode).enc.headerDone = s.enc.headerDone := rfl
@[simp] theorem State.drawn_encode_enc_failed (s : State) : (s.drawn .encode).enc.failed = s.enc.failed := rfl
@[simp] theorem State.drawn_encode_enc_frees (s : State) : (s.drawn .encode).enc.frees = s.enc.frees + 1 := rfl
@[simp] theorem State.drawn_decode_enc (s : State) : (s.drawn .decode).enc = s.enc := rfl
@[simp] theorem State.drawn_decode_ops (s : State) : (s.drawn .decode).ops = s.ops := rfl
@[simp] theorem State.drawn_decode_last (s : State) : (s.drawn .decode).last = s.last := rfl
@[simp] theorem State.drawn_decode_dec_cfg (s : State) : (s.drawn .decode).dec.cfg = s.dec.cfg := rfl
@[simp] theorem State.drawn_decode_dec_dict (s : State) : (s.drawn .decode).dec.dict = s.dec.dict := rfl
@[simp] theorem State.drawn_decode_dec_deltaIn (s : State) : (s.drawn .decode).dec.deltaIn = s.dec.deltaIn := rfl
@[simp] theorem State.drawn_decode_dec_secData (s : State) : (s.drawn .decode).dec.secData = s.dec.secData := rfl
@[simp] theorem State.drawn_decode_dec_secInst (s : State) : (s.drawn .decode).dec.secInst = s.dec.secInst := rfl
@[simp] theorem State.drawn_decode_dec_secAddr (s : State) : (s.drawn .decode).dec.secAddr = s.dec.secAddr := rfl
@[simp] theorem State.drawn_decode_dec_carry (s : State) : (s.drawn .decode).dec.carry = s.dec.carry := rfl
@[simp] theorem State.drawn_decode_dec_decoded (s : State) : (s.drawn .decode).dec.decoded = s.dec.decoded := rfl
@[simp] theorem State.drawn_decode_dec_tgtOut (s : State) : (s.drawn .decode).dec.tgtOut = s.dec.tgtOut := rfl
@[simp] theorem State.drawn_decode_dec_ibuf (s : State) : (s.drawn .decode).dec.ibuf = s.dec.ibuf := rfl
@[simp] theorem State.drawn_decode_dec_ipos (s : State) : (s.drawn .decode).dec.ipos = s.dec.ipos := rfl
@[simp] theorem State.drawn_decode_dec_iend (s : State) : (s.drawn .decode).dec.iend = s.dec.iend := rfl
@[simp] theorem State.drawn_decode_dec_pendingSecond (s : State) : (s.drawn .decode).dec.pendingSecond = s.dec.pendingSecond := rfl
@[simp] theorem State.drawn_decode_dec_win (s : State) : (s.drawn .decode).dec.win = s.dec.win := rfl
@[simp] theorem State.drawn_decode_dec_dpos (s : State) : (s.drawn .decode).dec.dpos = s.dec.dpos := rfl
@[simp] theorem State.drawn_decode_dec_apos (s : State) : (s.drawn .decode).dec.apos = s.dec.apos := rfl
@[simp] theorem State.drawn_decode_dec_remaining (s : State) : (s.drawn .decode).dec.remaining = s.dec.remaining := rfl
@[simp] theorem State.drawn_decode_dec_pendingInst (s : State) : (s.drawn .decode).dec.pendingInst = s.dec.pendingInst := rfl
@[simp] theorem State.drawn_decode_dec_cache (s : State) : (s.drawn .decode).dec.cache = s.dec.cache := rfl
@[simp] theorem State.drawn_decode_dec_streamVersion (s : State) : (s.drawn .decode).dec.streamVersion = s.dec.streamVersion := rfl
@[simp] theorem State.drawn_decode_dec_inPos (s : State) : (s.drawn .decode).dec.inPos = s.dec.inPos := rfl
@[simp] theorem State.drawn_decode_dec_phase (s : State) : (s.drawn .decode).dec.phase = s.dec.phase := rfl
@[simp] theorem State.drawn_decode_dec_written (s : State) : (s.drawn .decode).dec.written = s.dec.written := rfl
@[simp] theorem State.drawn_decode_dec_failed (s : State) : (s.drawn .decode).dec.failed = s.dec.failed := rfl
@[simp] theorem State.drawn_decode_dec_stage (s : State) : (s.drawn .decode).dec.stage = s.dec.stage := rfl
@[simp] theorem State.drawn_decode_dec_call (s : State) : (s.drawn .decode).dec.call = s.dec.call := rfl
@[simp] theorem State.drawn_decode_dec_frees (s : State) : (s.drawn .decode).dec.frees = s.dec.frees + 1 := rfl

/-! ### The encode session -/

@[simp] theorem Encoder.initHash_cfg (e : Encoder) : (e.initHash).cfg = e.cfg := rfl
@[simp] theorem Encoder.initHash_dict (e : Encoder) : (e.initHash).dict = e.dict := rfl
@[simp] theorem Encoder.initHash_tgtIn (e : Encoder) : (e.initHash).tgtIn = e.tgtIn := rfl
@[simp] theorem Encoder.initHash_removeTable (e : Encoder) : (e.initHash).removeTable = rhInit e.cfg.blockSize e.cfg.hashMult := rfl
@[simp] theorem Encoder.initHash_hashReady (e : Encoder) : (e.initHash).hashReady = true := rfl
@[simp] theorem Encoder.initHash_index (e : Encoder) : (e.initHash).index = e.index := rfl
@[simp] theorem Encoder.initHash_map (e : Encoder) : (e.initHash).map = e.map := rfl
@[simp] theorem Encoder.initHash_parser (e : Encoder) : (e.initHash).parser = e.parser := rfl
@[simp] theorem Encoder.initHash_ws (e : Encoder) : (e.initHash).ws = e.ws := rfl
@[simp] theorem Encoder.initHash_deltaOut (e : Encoder) : (e.initHash).deltaOut = e.deltaOut := rfl
@[simp] theorem Encoder.initHash_failed (e : Encoder) : (e.initHash).failed = e.failed := rfl
@[simp] theorem Encoder.initHash_headerDone (e : Encoder) : (e.initHash).headerDone = e.headerDone := rfl
@[simp] theorem Encoder.initHash_frees (e : Encoder) : (e.initHash).frees = e.frees := rfl
@[simp] theorem Encoder.buildMap_cfg (e : Encoder) : (e.buildMap).cfg = e.cfg := by
  simp only [Encoder.buildMap]
@[simp] theorem Encoder.buildMap_dict (e : Encoder) : (e.buildMap).dict = e.dict := by
  simp only [Encoder.buildMap]
@[simp] theorem Encoder.buildMap_tgtIn (e : Encoder) : (e.buildMap).tgtIn = e.tgtIn := by
  simp only [Encoder.buildMap]
@[simp] theorem Encoder.buildMap_removeTable (e : Encoder) : (e.buildMap).removeTable = e.removeTable := by
  simp only [Encoder.buildMap]
@[simp] theorem Encoder.buildMap_hashReady (e : Encoder) : (e.buildMap).hashReady = e.hashReady := by
  simp only [Encoder.buildMap]
@[simp] theorem Encoder.buildMap_index (e : Encoder) : (e.buildMap).index = e.index := by
  simp only [Encoder.buildMap]
@[simp] theorem Encoder.buildMap_map (e : Encoder) : (e.buildMap).map = imBuild e.cfg.codeTable := by
  simp only [Encoder.buildMap]
@[simp] theorem Encoder.buildMap_parser (e : Encoder) : (e.buildMap).parser = e.parser := by
  simp only [Encoder.buildMap]
@[simp] theorem Encoder.buildMap_ws (e : Encoder) : (e.buildMap).ws = e.ws := by
  simp only [Encoder.buildMap]
@[simp] theorem Encoder.buildMap_deltaOut (e : Encoder) : (e.buildMap).deltaOut = e.deltaOut := by
  simp only [Encoder.buildMap]
@[simp] theorem Encoder.buildMap_failed (e : Encoder) : (e.buildMap).failed = e.failed := by
  simp only [Encoder.buildMap]
@[simp] theorem Encoder.buildMap_headerDone (e : Encoder) : (e.buildMap).headerDone = e.headerDone := by
  simp only [Encoder.buildMap]
@[simp] theorem Encoder.buildMap_frees (e : Encoder) : (e.buildMap).frees = e.frees := by
  simp only [Encoder.buildMap]
@[simp] theorem Encoder.writeHeader_cfg (e : Encoder) : (e.writeHeader).cfg = e.cfg := rfl
@[simp] theorem Encoder.writeHeader_dict (e : Encoder) : (e.writeHeader).dict = e.dict := rfl
@[simp] theorem Encoder.writeHeader_tgtIn (e : Encoder) : (e.writeHeader).tgtIn = e.tgtIn := rfl
@[simp] theorem Encoder.writeHeader_removeTable (e : Encoder) : (e.writeHeader).removeTable = e.removeTable := rfl
@[simp] theorem Encoder.writeHeader_hashReady (e : Encoder) : (e.writeHeader).hashReady = e.hashReady := rfl
@[simp] theorem Encoder.writeHeader_index (e : Encoder) : (e.writeHeader).index = e.index := rfl
@[simp] theorem Encoder.writeHeader_map (e : Encoder) : (e.writeHeader).map = e.map := rfl
@[simp] theorem Encoder.writeHeader_parser (e : Encoder) : (e.writeHeader).parser = e.parser := rfl
@[simp] theorem Encoder.writeHeader_ws (e : Encoder) : (e.writeHeader).ws = e.ws := rfl
@[simp] theorem Encoder.writeHeader_deltaOut (e : Encoder) : (e.writeHeader).deltaOut = e.deltaOut.append [0xD6, 0xC3, 0xC4, versionByte e.cfg, 0x00] := rfl
@[simp] theorem Encoder.writeHeader_failed (e : Encoder) : (e.writeHeader).failed = e.failed := rfl
@[simp] theorem Encoder.writeHeader_headerDone (e : Encoder) : (e.writeHeader).headerDone = true := rfl
@[simp] theorem Encoder.writeHeader_frees (e : Encoder) : (e.writeHeader).frees = e.frees := rfl
@[simp] theorem Serializer.emit_dataBuf (ws : Serializer) (op : Byte) (size : Bytes) : (ws.emit op size).dataBuf = ws.dataBuf := rfl
@[simp] theorem Serializer.emit_instBuf (ws : Serializer) (op : Byte) (size : Bytes) : (ws.emit op size).instBuf = ws.instBuf.append (op :: size) := rfl
@[simp] theorem Serializer.emit_addrBuf (ws : Serializer) (op : Byte) (size : Bytes) : (ws.emit op size).addrBuf = ws.addrBuf := rfl
@[simp] theorem Serializer.emit_lastOpIdx (ws : Serializer) (op : Byte) (size : Bytes) : (ws.emit op size).lastOpIdx = some ws.instBuf.len := rfl
@[simp] theorem Serializer.emit_targetLen (ws : Serializer) (op : Byte) (size : Bytes) : (ws.emit op size).targetLen = ws.targetLen := rfl
@[simp] theorem Serializer.emit_dictLen (ws : Serializer) (op : Byte) (size : Bytes) : (ws.emit op size).dictLen = ws.dictLen := rfl
@[simp] theorem Serializer.emit_cache (ws : Serializer) (op : Byte) (size : Bytes) : (ws.emit op size).cache = ws.cache := rfl
@[simp] theorem Serializer.emit_ready (ws : Serializer) (op : Byte) (size : Bytes) : (ws.emit op size).ready = ws.ready := rfl
@[simp] theorem Serializer.appendLiteral_dataBuf (i : Bool) (ws : Serializer) (bs : Bytes) : (ws.appendLiteral i bs).dataBuf = if i then ws.dataBuf else ws.dataBuf.append bs := by
  unfold Serializer.appendLiteral; cases i <;> rfl
@[simp] theorem Serializer.appendLiteral_instBuf (i : Bool) (ws : Serializer) (bs : Bytes) : (ws.appendLiteral i bs).instBuf = if i then ws.instBuf.append bs else ws.instBuf := by
  unfold Serializer.appendLiteral; cases i <;> rfl
@[simp] theorem Serializer.appendLiteral_addrBuf (i : Bool) (ws : Serializer) (bs : Bytes) : (ws.appendLiteral i bs).addrBuf = ws.addrBuf := by
  unfold Serializer.appendLiteral; split <;> rfl
@[simp] theorem Serializer.appendLiteral_lastOpIdx (i : Bool) (ws : Serializer) (bs : Bytes) : (ws.appendLiteral i bs).lastOpIdx = ws.lastOpIdx := by
  unfold Serializer.appendLiteral; split <;> rfl
@[simp] theorem Serializer.appendLiteral_targetLen (i : Bool) (ws : Serializer) (bs : Bytes) : (ws.appendLiteral i bs).targetLen = ws.targetLen := by
  unfold Serializer.appendLiteral; split <;> rfl
@[simp] theorem Serializer.appendLiteral_dictLen (i : Bool) (ws : Serializer) (bs : Bytes) : (ws.appendLiteral i bs).dictLen = ws.dictLen := by
  unfold Serializer.appendLiteral; split <;> rfl
@[simp] theorem Serializer.appendLiteral_cache (i : Bool) (ws : Serializer) (bs : Bytes) : (ws.appendLiteral i bs).cache = ws.cache := by
  unfold Serializer.appendLiteral; split <;> rfl
@[simp] theorem Serializer.appendLiteral_ready (i : Bool) (ws : Serializer) (bs : Bytes) : (ws.appendLiteral i bs).ready = ws.ready := by
  unfold Serializer.appendLiteral; split <;> rfl
@[simp] theorem Serializer.appendAddress_dataBuf (i : Bool) (ws : Serializer) (bs : Bytes) : (ws.appendAddress i bs).dataBuf = ws.dataBuf := by
  unfold Serializer.appendAddress; split <;> rfl
@[simp] theorem Serializer.appendAddress_instBuf (i : Bool) (ws : Serializer) (bs : Bytes) : (ws.appendAddress i bs).instBuf = if i then ws.instBuf.append bs else ws.instBuf := by
  unfold Serializer.appendAddress; cases i <;> rfl
@[simp] theorem Serializer.appendAddress_addrBuf (i : Bool) (ws : Serializer) (bs : Bytes) : (ws.appendAddress i bs).addrBuf = if i then ws.addrBuf else ws.addrBuf.append bs := by
  unfold Serializer.appendAddress; cases i <;> rfl
@[simp] theorem Serializer.appendAddress_lastOpIdx (i : Bool) (ws : Serializer) (bs : Bytes) : (ws.appendAddress i bs).lastOpIdx = ws.lastOpIdx := by
  unfold Serializer.appendAddress; split <;> rfl
@[simp] theorem Serializer.appendAddress_targetLen (i : Bool) (ws : Serializer) (bs : Bytes) : (ws.appendAddress i bs).targetLen = ws.targetLen := by
  unfold Serializer.appendAddress; split <;> rfl
@[simp] theorem Serializer.appendAddress_dictLen (i : Bool) (ws : Serializer) (bs : Bytes) : (ws.appendAddress i bs).dictLen = ws.dictLen := by
  unfold Serializer.appendAddress; split <;> rfl
@[simp] theorem Serializer.appendAddress_cache (i : Bool) (ws : Serializer) (bs : Bytes) : (ws.appendAddress i bs).cache = ws.cache := by
  unfold Serializer.appendAddress; split <;> rfl
@[simp] theorem Serializer.appendAddress_ready (i : Bool) (ws : Serializer) (bs : Bytes) : (ws.appendAddress i bs).ready = ws.ready := by
  unfold Serializer.appendAddress; split <;> rfl
@[simp] theorem Serializer.windowReset_dataBuf (cfg : Cfg) (ws : Serializer) : (ws.windowReset cfg).dataBuf = [] := rfl
@[simp] theorem Serializer.windowReset_instBuf (cfg : Cfg) (ws : Serializer) : (ws.windowReset cfg).instBuf = [] := rfl
@[simp] theorem Serializer.windowReset_addrBuf (cfg : Cfg) (ws : Serializer) : (ws.windowReset cfg).addrBuf = [] := rfl
@[simp] theorem Serializer.windowReset_lastOpIdx (cfg : Cfg) (ws : Serializer) : (ws.windowReset cfg).lastOpIdx = none := rfl
@[simp] theorem Serializer.windowReset_targetLen (cfg : Cfg) (ws : Serializer) : (ws.windowReset cfg).targetLen = 0 := rfl
@[simp] theorem Serializer.windowReset_dictLen (cfg : Cfg) (ws : Serializer) : (ws.windowReset cfg).dictLen = ws.dictLen := rfl
@[simp] theorem Serializer.windowReset_cache (cfg : Cfg) (ws : Serializer) : (ws.windowReset cfg).cache = acReset cfg := rfl
@[simp] theorem Serializer.windowReset_ready (cfg : Cfg) (ws : Serializer) : (ws.windowReset cfg).ready = ws.ready := rfl

end Sys2Proof.Machine
end

