-- ==== Sys2Proof/Laws/Body.lean ====
section
/-! SUPPORT. Everything the shared operations of the body decoder can do: one lemma per operation, to be cited in place of unfolding it. -/

namespace Sys2Proof.Machine

/-! ### Sources -/

theorem Memory.slice_length (m : Memory) (pos n : Nat) : (m.slice pos n).length = min n (m.len - pos) := by
  simp [Memory.slice]

theorem Memory.slice_take (m : Memory) (pos n k : Nat) (h : k ≤ n) : (m.slice pos n).take k = m.slice pos k := by
  simp [Memory.slice, List.take_take, Nat.min_eq_left h]

/-- A source that holds every byte below its limit runs out only with `EOD`. -/
theorem Source.ranOut_eod {α : Type} {x : Source} (h : x.lim ≤ x.space.len) (d : Decoder) :
    (x.ranOut d : Act Decoder α) = .eod d := by
  have : x.bytes.length = x.lim - x.pos := by
    rw [Source.bytes, Memory.slice_length]; omega
  simp [Source.ranOut, this]

theorem Source.ranOut_cases {α : Type} (x : Source) (d : Decoder) :
    (x.ranOut d : Act Decoder α) = .eod d ∨
      (x.space.len < x.lim ∧ (x.ranOut d : Act Decoder α) = .bad (.noSuchAddress x.name (x.pos + x.bytes.length))) := by
  by_cases h : x.lim ≤ x.space.len
  · exact .inl (Source.ranOut_eod h d)
  · unfold Source.ranOut
    split
    · exact .inr ⟨by omega, rfl⟩
    · exact .inl rfl

/-! ### The instructions -/

/-- `ADD` completes, runs out of literal bytes, or meets a buffer shorter than its limit. -/
theorem Decoder.doAdd_cases (d : Decoder) (size : Nat) :
    (size ≤ d.literals.bytes.length ∧ d.doAdd size =
      .ok (Decoder.setLiteralPos { d with decoded := d.decoded.append (d.literals.bytes.take size) } (d.literals.pos + size)) ()) ∨
    (d.literals.bytes.length < size ∧ d.doAdd size = d.literals.ranOut d) := by
  unfold Decoder.doAdd
  split
  · exact .inr ⟨‹_›, rfl⟩
  · exact .inl ⟨by omega, rfl⟩

/-- `RUN` completes, runs out of literal bytes, or meets a buffer shorter than its limit. -/
theorem Decoder.doRun_cases (d : Decoder) (size : Nat) :
    (∃ b bs, d.literals.bytes = b :: bs ∧ d.doRun size =
      .ok (Decoder.setLiteralPos { d with decoded := d.decoded.append (List.replicate size b) } (d.literals.pos + 1)) ()) ∨
    (d.literals.bytes = [] ∧ d.doRun size = d.literals.ranOut d) := by
  unfold Decoder.doRun
  split
  · exact .inr ⟨‹_›, rfl⟩
  · exact .inl ⟨_, _, ‹_›, rfl⟩

theorem Memory.append_append (m : Memory) (xs ys : Bytes) : (m.append xs).append ys = m.append (xs ++ ys) := by
  have key : ∀ (a : Nat) (xs ys : Bytes), Memory.cellsFrom a (xs ++ ys) = Memory.cellsFrom a xs ++ Memory.cellsFrom (a + xs.length) ys := by
    intro a xs ys
    induction xs generalizing a with
    | nil => simp [Memory.cellsFrom]
    | cons x xs ih => simp [Memory.cellsFrom, ih, show a + 1 + xs.length = a + (xs.length + 1) by omega]
  have hl : (m ++ Memory.cellsFrom m.length xs).length = m.length + xs.length := by simp
  simp only [Memory.append, key, hl, List.append_assoc]

/-- R230's loop appends bytes and does nothing else; byte `k` is the one its address names once the bytes before it are there. -/
theorem Decoder.copyFrom_ok {x n : Nat} {d d1 : Decoder} (h : Decoder.copyFrom x n d = .ok d1 ()) :
    ∃ bs : Bytes, bs.length = n ∧ d1 = { d with decoded := d.decoded.append bs } ∧
      ∀ k b, bs[k]? = some b → Decoder.copyByte { d with decoded := d.decoded.append (bs.take k) } (x + k) = some b := by
  induction n generalizing x d with
  | zero =>
    simp only [Decoder.copyFrom, Act.ok.injEq, and_true] at h
    exact ⟨[], rfl, by simp [← h], by simp⟩
  | succ n ih =>
    simp only [Decoder.copyFrom] at h
    split at h
    · cases h
    · rename_i b hb
      obtain ⟨bs, hl, hd, hk⟩ := ih h
      refine ⟨b :: bs, by simp [hl], by simp [hd, Memory.append_append], ?_⟩
      intro k c hc
      cases k with
      | zero => simp at hc; subst hc; simpa using hb
      | succ k =>
        have := hk k c (by simpa using hc)
        simpa [Memory.append_append, Nat.add_assoc, Nat.add_comm 1 k] using this

/-- R230's loop ends with all its bytes, or at a byte that does not exist. -/
theorem Decoder.copyFrom_cases (x n : Nat) (d : Decoder) :
    (∃ bs : Bytes, Decoder.copyFrom x n d = .ok { d with decoded := d.decoded.append bs } () ∧ bs.length = n) ∨
      ∃ f, Decoder.copyFrom x n d = .bad f := by
  induction n generalizing x d with
  | zero => exact .inl ⟨[], by simp [Decoder.copyFrom], rfl⟩
  | succ n ih =>
    simp only [Decoder.copyFrom]
    split
    · exact .inr ⟨_, rfl⟩
    · rename_i b _
      rcases ih (x + 1) { d with decoded := d.decoded.append [b] } with ⟨bs, h, hl⟩ | h
      · exact .inl ⟨b :: bs, by simp [h, Memory.append_append], by simp [hl]⟩
      · exact .inr h

/-- Where the `COPY` address space holds its bytes, R230's loop from an address below `here` ends with all its bytes. -/
theorem Decoder.copyFrom_total {x n : Nat} {d : Decoder} (hd : d.dict.wf = true) (hm : d.decoded.wf = true)
    (hs : d.win.srcSegPos + d.win.srcSegLen ≤ d.dict.len) (hx : x < d.here) :
    ∃ bs : Bytes, Decoder.copyFrom x n d = .ok { d with decoded := d.decoded.append bs } () ∧ bs.length = n := by
  induction n generalizing x d with
  | zero => exact ⟨[], by simp [Decoder.copyFrom], rfl⟩
  | succ n ih =>
    have : ∃ b, d.copyByte x = some b := by
      unfold Decoder.copyByte
      split
      · exact Memory.wf_read_lt hd (by omega)
      · exact Memory.wf_read_lt hm (by simp only [Decoder.here] at hx; omega)
    obtain ⟨b, hb⟩ := this
    obtain ⟨bs, h, hl⟩ := ih (x := x + 1) (d := { d with decoded := d.decoded.append [b] }) hd (Memory.wf_append hm _) hs
      (by simp only [Decoder.here, Memory.append_len, List.length_singleton] at hx ⊢; omega)
    exact ⟨b :: bs, by simp [Decoder.copyFrom, hb, h, Memory.append_append], by simp [hl]⟩

/-- `COPY` waits for its address field, is refused by `AC_DECODE`, is refused by `TARGET_COPY_MODE` with the cache updated, or copies. -/
theorem Decoder.doCopy_cases (d : Decoder) (size mode : Nat) :
    (d.cache.decode d.cfg mode d.here d.addresses.bytes = .eod ∧ d.doCopy size mode = d.addresses.ranOut d) ∨
    (∃ c, d.cache.decode d.cfg mode d.here d.addresses.bytes = .err c ∧ d.doCopy size mode = .err d c) ∨
    ∃ a rest cache, d.cache.decode d.cfg mode d.here d.addresses.bytes = .ok a rest cache ∧
      ((d.cfg.targetCopyMode = .refuse ∧ d.win.srcSegLen < a + size ∧ d.doCopy size mode =
          .err (Decoder.setAddressPos { d with cache := cache } (d.addresses.posAfter rest)) .copyRange) ∨
        ((d.cfg.targetCopyMode = .refuse → a + size ≤ d.win.srcSegLen) ∧ d.doCopy size mode =
          Decoder.copyFrom a size (Decoder.setAddressPos { d with cache := cache } (d.addresses.posAfter rest)))) := by
  cases h : d.cache.decode d.cfg mode d.here d.addresses.bytes with
  | eod => exact .inl ⟨rfl, by simp [Decoder.doCopy, h]⟩
  | err c => exact .inr (.inl ⟨c, rfl, by simp [Decoder.doCopy, h]⟩)
  | ok a rest cache =>
    refine .inr (.inr ⟨a, rest, cache, rfl, ?_⟩)
    by_cases hr : d.cfg.targetCopyMode = .refuse ∧ d.win.srcSegLen < a + size
    · exact .inl ⟨hr.1, hr.2, by simp [Decoder.doCopy, h, hr]⟩
    · refine .inr ⟨fun hm => ?_, by simp [Decoder.doCopy, h, hr]⟩
      by_contra hc
      exact hr ⟨hm, by omega⟩

/-! ### One delivered instruction -/

@[simp] theorem Decoder.waiting_standard {d : Decoder} (h : d.win.mode = .standard) : d.waiting = none := by
  simp [Decoder.waiting, h]

@[simp] theorem Decoder.waiting_interleaved {d : Decoder} (h : d.win.mode = .interleaved) : d.waiting = d.pendingInst := by
  simp [Decoder.waiting, h]

/-- The bytes ran out: `TRUNCATED_SECTION`, or a wait; the session is as it was. -/
theorem Decoder.needMore_cases (d : Decoder) :
    ((d.win.mode = .standard ∨ d.remaining = 0) ∧ d.needMore = .err d .truncatedSection) ∨
    (d.win.mode = .interleaved ∧ d.remaining ≠ 0 ∧ d.needMore = .eod d) := by
  unfold Decoder.needMore
  cases h : d.win.mode <;> simp
  by_cases hr : d.remaining = 0 <;> simp [hr]

/-- An instruction that would pass the target length is refused (R232). -/
theorem Decoder.issue_overrun {d : Decoder} {t : Triple} (h : d.win.targetLen < d.decoded.len + t.size) :
    d.issue t = .err d .instructionOverrun := by
  simp [Decoder.issue, h]

/-- In a standard window an instruction is executed; bytes that run out are `TRUNCATED_SECTION` (R227). -/
theorem Decoder.issue_standard {d : Decoder} {t : Triple} (h : d.decoded.len + t.size ≤ d.win.targetLen)
    (hm : d.win.mode = .standard) :
    d.issue t = match d.perform t with
      | .ok d1 _ => .ok d1 ()
      | .eod d1 => d1.needMore
      | .err d1 c => .err d1 c
      | .bad f => .bad f := by
  cases hp : d.perform t <;> simp [Decoder.issue, Nat.not_lt.mpr h, hm, hp]

/-- In an interleaved window an instruction is recorded as pending, then executed (R235). -/
theorem Decoder.issue_interleaved {d : Decoder} {t : Triple} (h : d.decoded.len + t.size ≤ d.win.targetLen)
    (hm : d.win.mode = .interleaved) : d.issue t = Decoder.retry { d with pendingInst := some t } t := by
  simp [Decoder.issue, Nat.not_lt.mpr h, hm]

/-! ### The meaning of an instruction -/

theorem State.inBody_failed {s : State} {c : Cause} (h : s.dec.failed = some c) (k : Decoder → Act Decoder Unit) :
    s.inBody k = .next s := by
  simp [State.inBody, h]

theorem State.inBody_outside {s : State} (h : s.dec.failed = none) (hs : s.dec.stage ≠ .started)
    (k : Decoder → Act Decoder Unit) : s.inBody k = .next (s.raiseDecode .seqOrder) := by
  simp [State.inBody, h, Act.requires, hs]

theorem State.inBody_running {s : State} (h : s.dec.failed = none) (hs : s.dec.stage = .started)
    (k : Decoder → Act Decoder Unit) : s.inBody k = s.settle (k s.dec) := by
  simp [State.inBody, h, Act.requires, hs]

end Sys2Proof.Machine
end

