-- ==== Sys2Proof/Laws/Instruction.lean ====
section
/-! SUPPORT. Everything one delivered instruction can do to a decode session: the four outcomes, each with the session it leaves written out as an update of the session before. -/

namespace Sys2Proof.Machine

/-! ### The address cache -/

/-- A decoded address is below `here`, and the cache is the one updated with it. -/
theorem AddrCache.decode_ok {cfg : Cfg} {c c1 : AddrCache} {mode here a : Nat} {bs rest : Bytes}
    (h : c.decode cfg mode here bs = .ok a rest c1) : a < here ∧ c1 = c.update cfg a := by
  have key : ∀ a' r, c.accept cfg here a' r = .ok a rest c1 → a < here ∧ c1 = c.update cfg a := by
    intro a' r h
    unfold AddrCache.accept at h
    split at h
    · cases h; exact ⟨‹_›, rfl⟩
    · cases h
  unfold AddrCache.decode at h
  split at h
  · cases h
  split at h
  · split at h
    · cases h
    · exact key _ _ h
  · split at h
    · cases h
    · cases h
    · split at h
      · exact key _ _ h
      · split at h
        · split at h
          · cases h
          · exact key _ _ h
        · exact key _ _ h

/-! ### `Exec` -/

/-- The registers an instruction may move, and which of them it leaves in each window mode. -/
structure Decoder.Moves (d : Decoder) (t : Triple) (dpos apos ipos : Nat) (cache : AddrCache) : Prop where
  updated     : cache = d.cache ∨ ∃ a, cache = d.cache.update d.cfg a
  notCopy     : t.inst ≠ .copy → cache = d.cache ∧ apos = d.apos
  copy        : t.inst = .copy → dpos = d.dpos
  standard    : d.win.mode = .standard → ipos = d.ipos
  interleaved : d.win.mode = .interleaved → dpos = d.dpos ∧ apos = d.apos

theorem Decoder.Moves.none (d : Decoder) (t : Triple) : d.Moves t d.dpos d.apos d.ipos d.cache :=
  ⟨.inl rfl, fun _ => ⟨rfl, rfl⟩, fun _ => rfl, fun _ => rfl, fun _ => ⟨rfl, rfl⟩⟩

/-- `Exec` completes, waits with nothing consumed, raises an error with nothing appended, or meets a byte that does not exist. -/
theorem Decoder.perform_cases (d : Decoder) (t : Triple) :
    (∃ bs dpos apos ipos cache, d.perform t = .ok { d with
        decoded := d.decoded.append bs, dpos := dpos, apos := apos, ipos := ipos, cache := cache } () ∧
      d.Moves t dpos apos ipos cache ∧ (t.inst ≠ .noop → bs.length = t.size) ∧ bs.length ≤ t.size) ∨
    d.perform t = .eod d ∨
    (∃ c apos ipos cache, d.perform t = .err { d with apos := apos, ipos := ipos, cache := cache } c ∧
      d.Moves t d.dpos apos ipos cache) ∨
    ∃ f, d.perform t = .bad f := by
  have ro : ∀ x : Source, (x.ranOut d : Act Decoder Unit) = .eod d ∨ ∃ f, (x.ranOut d : Act Decoder Unit) = .bad f := fun x => by
    rcases x.ranOut_cases d (α := Unit) with h | ⟨_, h⟩
    · exact .inl h
    · exact .inr ⟨_, h⟩
  unfold Decoder.perform
  cases hi : t.inst with
  | noop => exact .inl ⟨[], _, _, _, _, by simp, Decoder.Moves.none d t, by simp, by simp⟩
  | add =>
    rcases d.doAdd_cases t.size with ⟨hl, h⟩ | ⟨_, h⟩
    · refine .inl ⟨d.literals.bytes.take t.size, if d.win.mode = .standard then d.literals.pos + t.size else d.dpos, d.apos,
        if d.win.mode = .standard then d.ipos else d.literals.pos + t.size, d.cache, ?_, ?_, by simp; omega, by simp⟩
      · simp only [h]; unfold Decoder.setLiteralPos; cases d.win.mode <;> simp
      · constructor <;> simp +contextual [hi]
    · rcases ro d.literals with e | e
      · exact .inr (.inl (h.trans e))
      · exact .inr (.inr (.inr (e.imp fun _ e => h.trans e)))
  | run =>
    rcases d.doRun_cases t.size with ⟨b, _, _, h⟩ | ⟨_, h⟩
    · refine .inl ⟨List.replicate t.size b, if d.win.mode = .standard then d.literals.pos + 1 else d.dpos, d.apos,
        if d.win.mode = .standard then d.ipos else d.literals.pos + 1, d.cache, ?_, ?_, by simp, by simp⟩
      · simp only [h]; unfold Decoder.setLiteralPos; cases d.win.mode <;> simp
      · constructor <;> simp +contextual [hi]
    · rcases ro d.literals with e | e
      · exact .inr (.inl (h.trans e))
      · exact .inr (.inr (.inr (e.imp fun _ e => h.trans e)))
  | copy =>
    have at' : ∀ (p : Nat) (cache : AddrCache) (m : Memory),
        ({ Decoder.setAddressPos { d with cache := cache } p with decoded := m } : Decoder) = { d with
          decoded := m, apos := if d.win.mode = .standard then p else d.apos
          ipos := if d.win.mode = .standard then d.ipos else p, cache := cache } := by
      intro p cache m; unfold Decoder.setAddressPos; cases d.win.mode <;> simp
    have mv : ∀ (p a : Nat) (bs rest : Bytes) (cache : AddrCache), d.cache.decode d.cfg t.mode d.here bs = .ok a rest cache →
        d.Moves t d.dpos (if d.win.mode = .standard then p else d.apos) (if d.win.mode = .standard then d.ipos else p) cache := by
      intro p a bs rest cache hd
      refine ⟨.inr ⟨a, (AddrCache.decode_ok hd).2⟩, ?_, ?_, ?_, ?_⟩ <;> simp +contextual [hi]
    rcases d.doCopy_cases t.size t.mode with ⟨_, h⟩ | ⟨c, _, h⟩ | ⟨a, rest, cache, hd, ⟨_, _, h⟩ | ⟨_, h⟩⟩
    · rcases ro d.addresses with e | e
      · exact .inr (.inl (h.trans e))
      · exact .inr (.inr (.inr (e.imp fun _ e => h.trans e)))
    · exact .inr (.inr (.inl ⟨c, d.apos, d.ipos, d.cache, h, Decoder.Moves.none d t⟩))
    · refine .inr (.inr (.inl ⟨.copyRange, _, _, _, ?_, mv (d.addresses.posAfter rest) a _ rest cache hd⟩))
      simp only [h]; unfold Decoder.setAddressPos; cases d.win.mode <;> simp
    · rcases Decoder.copyFrom_cases a t.size (Decoder.setAddressPos { d with cache := cache } (d.addresses.posAfter rest))
        with ⟨bs, e, hl⟩ | ⟨f, e⟩
      · refine .inl ⟨bs, d.dpos, _, _, _, ?_, mv (d.addresses.posAfter rest) a _ rest cache hd, fun _ => hl, le_of_eq hl⟩
        simp only [h, e, at', Decoder.setAddressPos_decoded]
      · exact .inr (.inr (.inr ⟨f, h.trans e⟩))

/-! ### A delivered instruction in its window mode -/

/-- R235's retry of the pending instruction completes and clears `pendingInst`, waits with nothing consumed, raises an error with nothing appended, or meets a byte that does not exist. -/
theorem Decoder.retry_cases (d : Decoder) (t : Triple) :
    (∃ bs dpos apos ipos cache, d.retry t = .ok { d with
        decoded := d.decoded.append bs, dpos := dpos, apos := apos, ipos := ipos, cache := cache, pendingInst := none } () ∧
      d.Moves t dpos apos ipos cache ∧ (t.inst ≠ .noop → bs.length = t.size) ∧ bs.length ≤ t.size) ∨
    (d.win.mode = .interleaved ∧ d.remaining ≠ 0 ∧ d.retry t = .eod d) ∨
    (∃ c apos ipos cache, d.retry t = .err { d with apos := apos, ipos := ipos, cache := cache } c ∧
      d.Moves t d.dpos apos ipos cache) ∨
    ∃ f, d.retry t = .bad f := by
  unfold Decoder.retry
  rcases d.perform_cases t with ⟨bs, dpos, apos, ipos, cache, h, hm, hl⟩ | h | ⟨c, apos, ipos, cache, h, hm⟩ | ⟨f, h⟩
  · exact .inl ⟨bs, dpos, apos, ipos, cache, by simp only [h], hm, hl⟩
  · rcases d.needMore_cases with ⟨_, e⟩ | ⟨hw, hr, e⟩
    · exact .inr (.inr (.inl ⟨.truncatedSection, d.apos, d.ipos, d.cache, by simp only [h, e], Decoder.Moves.none d t⟩))
    · exact .inr (.inl ⟨hw, hr, by simp only [h, e]⟩)
  · exact .inr (.inr (.inl ⟨c, apos, ipos, cache, by simp only [h], hm⟩))
  · exact .inr (.inr (.inr ⟨f, by simp only [h]⟩))

/-- A delivered instruction that fits below the target length completes, waits recorded in `pendingInst`, raises an error with nothing appended, or meets a byte that does not exist; one that does not fit is `INSTRUCTION_OVERRUN`. -/
theorem Decoder.issue_cases (d : Decoder) (t : Triple) :
    (∃ bs dpos apos ipos cache, d.issue t = .ok { d with
        decoded := d.decoded.append bs, dpos := dpos, apos := apos, ipos := ipos, cache := cache
        pendingInst := if d.win.mode = .standard then d.pendingInst else none } () ∧
      d.Moves t dpos apos ipos cache ∧ (t.inst ≠ .noop → bs.length = t.size) ∧ bs.length ≤ t.size ∧
      d.decoded.len + t.size ≤ d.win.targetLen) ∨
    (d.win.mode = .interleaved ∧ d.remaining ≠ 0 ∧ d.decoded.len + t.size ≤ d.win.targetLen ∧
      d.issue t = .eod { d with pendingInst := some t }) ∨
    (∃ c apos ipos cache p, d.issue t = .err { d with apos := apos, ipos := ipos, cache := cache, pendingInst := p } c ∧
      d.Moves t d.dpos apos ipos cache ∧
      (p = d.pendingInst ∨ d.win.mode = .interleaved ∧ p = some t ∧ d.decoded.len + t.size ≤ d.win.targetLen)) ∨
    ∃ f, d.issue t = .bad f := by
  by_cases hov : d.win.targetLen < d.decoded.len + t.size
  · exact .inr (.inr (.inl ⟨.instructionOverrun, d.apos, d.ipos, d.cache, d.pendingInst, Decoder.issue_overrun hov,
      Decoder.Moves.none d t, .inl rfl⟩))
  have hfit := Nat.not_lt.mp hov
  cases hm : d.win.mode with
  | standard =>
    rw [Decoder.issue_standard hfit hm]
    rcases d.perform_cases t with ⟨bs, dpos, apos, ipos, cache, h, hv, h1, h2⟩ | h | ⟨c, apos, ipos, cache, h, hv⟩ | ⟨f, h⟩
    · exact .inl ⟨bs, dpos, apos, ipos, cache, by simp only [h, if_true], hv, h1, h2, hfit⟩
    · refine .inr (.inr (.inl ⟨.truncatedSection, d.apos, d.ipos, d.cache, d.pendingInst, ?_, Decoder.Moves.none d t, .inl rfl⟩))
      simp only [h, Decoder.needMore, hm]
    · exact .inr (.inr (.inl ⟨c, apos, ipos, cache, d.pendingInst, by simp only [h], hv, .inl rfl⟩))
    · exact .inr (.inr (.inr ⟨f, by simp only [h]⟩))
  | interleaved =>
    rw [Decoder.issue_interleaved hfit hm]
    have mv : ∀ dpos apos ipos cache, Decoder.Moves { d with pendingInst := some t } t dpos apos ipos cache →
        d.Moves t dpos apos ipos cache := fun _ _ _ _ h => ⟨h.updated, h.notCopy, h.copy, h.standard, h.interleaved⟩
    rcases Decoder.retry_cases { d with pendingInst := some t } t with
      ⟨bs, dpos, apos, ipos, cache, h, hv, h1, h2⟩ | ⟨_, hr, h⟩ | ⟨c, apos, ipos, cache, h, hv⟩ | ⟨f, h⟩
    · exact .inl ⟨bs, dpos, apos, ipos, cache, by simp [h], mv _ _ _ _ hv, h1, h2, hfit⟩
    · exact .inr (.inl ⟨rfl, hr, hfit, h⟩)
    · exact .inr (.inr (.inl ⟨c, apos, ipos, cache, some t, h, mv _ _ _ _ hv, .inr ⟨rfl, rfl, hfit⟩⟩))
    · exact .inr (.inr (.inr ⟨f, h⟩))

end Sys2Proof.Machine
end

