-- ==== Sys2Proof/Laws/DecodeKept.lean ====
section
/-! SUPPORT. What every operation of a decode session keeps: one lemma per operation, for every outcome it has. The only operation that does more is the completion of a window, which writes `TGT_OUT`. -/

namespace Sys2Proof.Machine

/-- The registers a decode operation that completes no window leaves as they were, and the invariants it keeps. -/
structure Decoder.Kept (d d1 : Decoder) : Prop where
  cfg      : d1.cfg = d.cfg
  dict     : d1.dict = d.dict
  tgtOut   : d1.tgtOut = d.tgtOut
  written  : d1.written = d.written
  failed   : d1.failed = d.failed
  memoryWf : d.memoryWf → d1.memoryWf
  sound    : d.sound → d1.sound

theorem Decoder.Kept.refl (d : Decoder) : d.Kept d := ⟨rfl, rfl, rfl, rfl, rfl, id, id⟩

theorem Decoder.Kept.trans {d d1 d2 : Decoder} (h : d.Kept d1) (h2 : d1.Kept d2) : d.Kept d2 :=
  ⟨h2.cfg.trans h.cfg, h2.dict.trans h.dict, h2.tgtOut.trans h.tgtOut, h2.written.trans h.written,
    h2.failed.trans h.failed, h2.memoryWf ∘ h.memoryWf, h2.sound ∘ h.sound⟩

theorem AddrCache.wf_update {cfg : Cfg} {c : AddrCache} (h : c.wf cfg) (a : Nat) : (c.update cfg a).wf cfg :=
  ⟨by simp [AddrCache.update, h.1], by simp [AddrCache.update, h.2.1], Nat.mod_lt _ (Nat.zero_lt_of_lt h.2.2)⟩

theorem AddrCache.wf_reset {cfg : Cfg} (h : 1 ≤ cfg.nearSize) : (AddrCache.reset cfg).wf cfg :=
  ⟨by simp [AddrCache.reset], by simp [AddrCache.reset], h⟩

theorem AddrCache.wf_encode {cfg : Cfg} {c c1 : AddrCache} {a here : Nat} {f : AddrField} (h : c.wf cfg)
    (he : c.encode cfg a here = some (f, c1)) : c1.wf cfg := by
  unfold AddrCache.encode at he
  split at he
  · cases he; exact AddrCache.wf_update h a
  · cases he

theorem AddrCache.wf_decode {cfg : Cfg} {c c1 : AddrCache} {mode here a : Nat} {bs rest : Bytes} (h : c.wf cfg)
    (hd : c.decode cfg mode here bs = .ok a rest c1) : c1.wf cfg := by
  rw [(AddrCache.decode_ok hd).2]; exact AddrCache.wf_update h a

theorem Decoder.Moves.wf {d : Decoder} {t : Triple} {dpos apos ipos : Nat} {cache : AddrCache}
    (h : d.Moves t dpos apos ipos cache) (hc : d.cache.wf d.cfg) : cache.wf d.cfg := by
  rcases h.updated with e | ⟨a, e⟩ <;> rw [e]
  · exact hc
  · exact AddrCache.wf_update hc a

/-! ### Instructions -/

theorem Source.ranOut_kept {α : Type} (x : Source) (d : Decoder) : (x.ranOut d : Act Decoder α).leaves d.Kept := by
  rcases x.ranOut_cases d (α := α) with h | ⟨_, h⟩ <;> rw [h]
  · exact Decoder.Kept.refl d
  · trivial

theorem Decoder.needMore_kept (d : Decoder) : d.needMore.leaves d.Kept := by
  rcases d.needMore_cases with ⟨_, h⟩ | ⟨_, _, h⟩ <;> rw [h] <;> exact Decoder.Kept.refl d

theorem Decoder.issue_kept (d : Decoder) (t : Triple) : (d.issue t).leaves d.Kept := by
  rcases d.issue_cases t with ⟨bs, dpos, apos, ipos, cache, h, hm, _, hl, hfit⟩ | ⟨_, _, hfit, h⟩ |
    ⟨c, apos, ipos, cache, p, h, hm, hp⟩ | ⟨f, h⟩ <;> rw [h]
  · refine ⟨rfl, rfl, rfl, rfl, rfl, ?_, ?_⟩
    · rintro ⟨m1, m2, m3, m4, m5, m6, m7, m8⟩
      exact ⟨m1, m2, m3, m4, m5, m6, Memory.wf_append m7 _, m8⟩
    · rintro ⟨s1, ⟨s2, s3, s4⟩, s5⟩
      refine ⟨hm.wf s1, ⟨s2, ?_, ?_⟩, s5⟩
      · intro _
        simp only [Memory.append_len]; omega
      · intro _ hi u hu
        simp only at hi hu
        rw [if_neg (by simp [hi])] at hu
        cases hu
  · refine ⟨rfl, rfl, rfl, rfl, rfl, id, ?_⟩
    rintro ⟨s1, ⟨s2, s3, s4⟩, s5⟩
    exact ⟨s1, ⟨s2, s3, fun _ _ u hu => by cases hu; exact hfit⟩, s5⟩
  · refine ⟨rfl, rfl, rfl, rfl, rfl, id, ?_⟩
    rintro ⟨s1, ⟨s2, s3, s4⟩, s5⟩
    refine ⟨hm.wf s1, ⟨s2, s3, ?_⟩, s5⟩
    rcases hp with rfl | ⟨_, rfl, hfit⟩
    · exact s4
    · intro _ _ u hu
      cases hu; exact hfit
  · trivial

/-- The retry of the instruction that waits, in a started body. -/
theorem Decoder.retry_kept {d : Decoder} {t : Triple} (hs : d.stage = .started) (hw : d.waiting = some t) :
    (d.retry t).leaves d.Kept := by
  have hm : d.win.mode = .interleaved := by
    cases h : d.win.mode with
    | standard => rw [Decoder.waiting_standard h] at hw; cases hw
    | interleaved => rfl
  rw [Decoder.waiting_interleaved hm] at hw
  rcases d.retry_cases t with ⟨bs, dpos, apos, ipos, cache, h, hv, _, hl⟩ | ⟨_, _, h⟩ |
    ⟨c, apos, ipos, cache, h, hv⟩ | ⟨f, h⟩ <;> rw [h]
  · refine ⟨rfl, rfl, rfl, rfl, rfl, ?_, ?_⟩
    · rintro ⟨m1, m2, m3, m4, m5, m6, m7, m8⟩
      exact ⟨m1, m2, m3, m4, m5, m6, Memory.wf_append m7 _, m8⟩
    · rintro ⟨s1, ⟨s2, s3, s4⟩, s5⟩
      refine ⟨hv.wf s1, ⟨s2, ?_, fun _ _ u hu => by cases hu⟩, s5⟩
      intro _
      have := s4 hs hm t hw
      simp only [Memory.append_len]; omega
  · exact Decoder.Kept.refl d
  · refine ⟨rfl, rfl, rfl, rfl, rfl, id, ?_⟩
    rintro ⟨s1, sw, s5⟩
    exact ⟨hv.wf s1, sw, s5⟩
  · trivial

theorem Decoder.issuePair_kept (d : Decoder) (op : Byte) (t u : Triple) : (d.issuePair op t u).leaves d.Kept := by
  have pend : ∀ (d : Decoder) (p : Option Byte), d.Kept { d with pendingSecond := p } :=
    fun _ _ => ⟨rfl, rfl, rfl, rfl, rfl, id, id⟩
  refine Act.leaves_bind (Act.leaves_imp (Decoder.issue_kept _ _) fun _ h => (pend d _).trans h) fun d1 _ _ h => ?_
  split
  · exact h
  · exact Act.leaves_imp (Decoder.issue_kept _ _) fun _ h1 => (h.trans (pend d1 _)).trans h1

theorem Decoder.idNext_kept (d : Decoder) : d.idNext.leaves d.Kept := by
  unfold Decoder.idNext
  split
  · exact Source.ranOut_kept _ d
  · split
    · split
      · exact Source.ranOut_kept _ d
      · exact ⟨rfl, rfl, rfl, rfl, rfl, id, id⟩
      · exact ⟨rfl, rfl, rfl, rfl, rfl, id, id⟩
    · exact ⟨rfl, rfl, rfl, rfl, rfl, id, id⟩

theorem Decoder.nextPass_kept (d : Decoder) : d.nextPass.leaves d.Kept := by
  have h := d.idNext_kept
  unfold Decoder.nextPass
  split <;> rename_i e <;> rw [e] at h
  · exact Act.leaves_imp (Decoder.issue_kept _ _) fun _ h1 => Decoder.Kept.trans h h1
  · exact Act.leaves_imp (Decoder.needMore_kept _) fun _ h1 => Decoder.Kept.trans h h1
  · exact h
  · trivial

theorem Decoder.starved_kept (d : Decoder) : d.starved.leaves d.Kept := by
  have h := Source.ranOut_kept (α := Unit) d.instructions d
  unfold Decoder.starved
  split
  · rename_i e
    rw [e] at h
    exact Act.leaves_imp (Decoder.needMore_kept _) fun _ h1 => Decoder.Kept.trans h h1
  · exact h

/-! ### Headers and window start -/

theorem Decoder.sdHeader_kept (d : Decoder) : d.sdHeader.leaves d.Kept := by
  unfold Decoder.sdHeader
  refine Act.leaves_requires (Decoder.Kept.refl d) ?_
  split
  · exact Decoder.Kept.refl d
  · exact Decoder.Kept.refl d
  · exact ⟨rfl, rfl, rfl, rfl, rfl, id, id⟩

/-- R214: a source segment that is read lies inside the dictionary. -/
theorem scanSegment_fits {dictLen : Nat} {wi : Byte} {bs rest : Bytes} {seg : Nat × Nat}
    (h : scanSegment dictLen wi bs = .ok seg rest) : seg.2 + seg.1 ≤ dictLen := by
  unfold scanSegment at h
  split at h
  · cases h; exact Nat.zero_le _
  · simp only [Scan.bind_eq_ok] at h
    obtain ⟨sl, _, _, sp, _, _, _, _, hc, h⟩ := h
    cases h
    unfold scanCheck at hc
    split at hc
    · cases hc
    · rename_i hd; simpa using hd

/-- R214 for a parsed window. -/
theorem scanWindow_fits {cfg : Cfg} {dictLen : Nat} {version : Byte} {bs rest : Bytes} {w : ParsedWindow}
    (h : scanWindow cfg dictLen version bs = .ok w rest) : w.header.srcSegPos + w.header.srcSegLen ≤ dictLen := by
  unfold scanWindow at h
  simp only [Scan.bind_eq_ok] at h
  obtain ⟨wi, _, _, _, _, _, _, _, _, seg, _, hseg, _, _, _, _, _, _, _, _, _, _, _, _, _, _, _, _, _, _, _, _, _,
    _, _, _, _, _, _, _, _, _, _, _, _, h⟩ := h
  cases h
  exact scanSegment_fits hseg

theorem Decoder.wdParse_kept (d : Decoder) : d.wdParse.leaves d.Kept := by
  unfold Decoder.wdParse
  split
  · split
    · exact Decoder.Kept.refl d
    · exact Decoder.Kept.refl d
    · rename_i w rest hw
      have hfit := scanWindow_fits hw
      unfold Decoder.commitWindow
      cases w.sections with
      | none =>
        refine ⟨rfl, rfl, rfl, rfl, rfl, id, ?_⟩
        rintro ⟨s1, -, s5⟩
        refine ⟨s1, ⟨fun _ => hfit, ?_, ?_⟩, s5⟩ <;> (intro h; cases h)
      | some x =>
        refine ⟨rfl, rfl, rfl, rfl, rfl, ?_, ?_⟩
        · rintro ⟨m1, m2, m3, m4, m5, m6, m7, m8⟩
          exact ⟨m1, m2, by simp, by simp, by simp, m6, m7, m8⟩
        · rintro ⟨s1, -, s5⟩
          refine ⟨s1, ⟨fun _ => hfit, ?_, ?_⟩, s5⟩ <;> (intro h; cases h)
  · exact Decoder.Kept.refl d

theorem Decoder.bdStart_kept (d : Decoder) : d.bdStart.leaves d.Kept := by
  unfold Decoder.bdStart
  cases hs : d.stage == .parsed with
  | false => exact Decoder.Kept.refl d
  | true =>
    have hp : d.stage ≠ .closed := by
      simp only [beq_iff_eq] at hs
      simp [hs]
    simp only [Act.requires_true]
    have sound : ∀ x : Decoder, x.cache = acReset d.cfg → x.cfg = d.cfg → x.dict = d.dict → x.win = d.win → x.decoded = [] →
        x.pendingInst = none → x.written = d.written → x.tgtOut = d.tgtOut → d.sound → x.sound := by
      rintro x h1 h2 h3 h4 h5 h6 h7 h8 ⟨s1, ⟨s2, -, -⟩, s5⟩
      refine ⟨?_, ⟨fun _ => ?_, fun _ => ?_, fun _ _ u hu => ?_⟩, by rw [h7, h8]; exact s5⟩
      · rw [h1, h2]; exact AddrCache.wf_reset (Nat.zero_lt_of_lt s1.2.2)
      · rw [h3, h4]; exact s2 hp
      · rw [h5]; exact Nat.zero_le _
      · rw [h6] at hu; cases hu
    split <;>
    · refine ⟨rfl, rfl, rfl, rfl, rfl, ?_, sound _ rfl rfl rfl rfl rfl rfl rfl rfl⟩
      rintro ⟨m1, m2, m3, m4, m5, -, -, m8⟩
      exact ⟨m1, m2, m3, m4, m5, rfl, rfl, m8⟩

theorem Decoder.intake_kept (d : Decoder) : d.Kept d.intake := by
  refine ⟨rfl, rfl, rfl, rfl, rfl, ?_, id⟩
  rintro ⟨m1, m2, m3, m4, m5, m6, m7, m8⟩
  exact ⟨m1, m2, m3, m4, m5, Memory.wf_append m6 _, m7, m8⟩

theorem Decoder.enterBody_kept (d : Decoder) : d.Kept d.enterBody := by
  unfold Decoder.enterBody
  split
  · exact Decoder.Kept.refl d
  · exact d.intake_kept

theorem Decoder.openWindow_kept (d : Decoder) : d.openWindow.leaves d.Kept := by
  refine Act.leaves_bind d.wdParse_kept fun d1 _ _ h1 => ?_
  refine Act.leaves_bind (Act.leaves_imp d1.bdStart_kept fun _ h => h1.trans h) fun d2 _ _ h2 => ?_
  exact (h2.trans ⟨rfl, rfl, rfl, rfl, rfl, id, id⟩ : d.Kept { d2 with phase := .body }).trans (Decoder.enterBody_kept _)

theorem Decoder.supply_kept (d : Decoder) (bytes : Bytes) (call : Option Call) :
    d.Kept { d with deltaIn := d.deltaIn.append bytes, call := call } := by
  refine ⟨rfl, rfl, rfl, rfl, rfl, ?_, id⟩
  rintro ⟨m1, m2, m3, m4, m5, m6, m7, m8⟩
  exact ⟨m1, Memory.wf_append m2 _, m3, m4, m5, m6, m7, m8⟩

theorem Decoder.beginCall_kept (d : Decoder) (bytes : Bytes) : d.Kept (d.beginCall bytes) := by
  have h := d.supply_kept bytes (some (.decodeCall d.written))
  unfold Decoder.beginCall
  simp only
  split
  · exact h.trans (Decoder.enterBody_kept _)
  · exact h

end Sys2Proof.Machine
end

