-- ==== Sys2Proof/Laws/PerInstr.lean ====
section
/-! SUPPORT. The per-instruction law `Table`: the row of the default code table (R80's formulas) at an instruction's opcode holds exactly its triples, and the decoder's row at that opcode is the instruction. -/

namespace Sys2Proof.Laws.Table

/-- The default table's entry at `i`'s opcode gives `i`'s triples, with the table size 0 where `i` has an explicit size, and that opcode's decoder row gives `i`. -/
def Statement (i : Sys2Proof.Instr) : Prop :=
  i.opcode < 256 ∧
  (defaultEntry i.opcode).firstTriple = { i.first with size := if i.explicitSize.isSome then 0 else i.first.size } ∧
  (defaultEntry i.opcode).secondTriple = i.second.getD ⟨.noop, 0, 0⟩ ∧
  i.explicitSize.getD i.first.size = i.first.size ∧
  OpcodeForm.complete (opcodeForm i.opcode) i.first.size = some i

theorem runV (size : Nat) : Statement (.runV size) :=
  ⟨(by decide : (0 : Nat) < 256), (by decide : (defaultEntry 0).firstTriple = ⟨.run, 0, 0⟩),
    (by decide : (defaultEntry 0).secondTriple = ⟨.noop, 0, 0⟩), rfl, rfl⟩
theorem addV (size : Nat) : Statement (.addV size) :=
  ⟨(by decide : (1 : Nat) < 256), (by decide : (defaultEntry 1).firstTriple = ⟨.add, 0, 0⟩),
    (by decide : (defaultEntry 1).secondTriple = ⟨.noop, 0, 0⟩), rfl, rfl⟩
theorem add1 : Statement (.add1) := ⟨by decide, by decide, by decide, rfl, rfl⟩
theorem add2 : Statement (.add2) := ⟨by decide, by decide, by decide, rfl, rfl⟩
theorem add3 : Statement (.add3) := ⟨by decide, by decide, by decide, rfl, rfl⟩
theorem add4 : Statement (.add4) := ⟨by decide, by decide, by decide, rfl, rfl⟩
theorem add5 : Statement (.add5) := ⟨by decide, by decide, by decide, rfl, rfl⟩
theorem add6 : Statement (.add6) := ⟨by decide, by decide, by decide, rfl, rfl⟩
theorem add7 : Statement (.add7) := ⟨by decide, by decide, by decide, rfl, rfl⟩
theorem add8 : Statement (.add8) := ⟨by decide, by decide, by decide, rfl, rfl⟩
theorem add9 : Statement (.add9) := ⟨by decide, by decide, by decide, rfl, rfl⟩
theorem add10 : Statement (.add10) := ⟨by decide, by decide, by decide, rfl, rfl⟩
theorem add11 : Statement (.add11) := ⟨by decide, by decide, by decide, rfl, rfl⟩
theorem add12 : Statement (.add12) := ⟨by decide, by decide, by decide, rfl, rfl⟩
theorem add13 : Statement (.add13) := ⟨by decide, by decide, by decide, rfl, rfl⟩
theorem add14 : Statement (.add14) := ⟨by decide, by decide, by decide, rfl, rfl⟩
theorem add15 : Statement (.add15) := ⟨by decide, by decide, by decide, rfl, rfl⟩
theorem add16 : Statement (.add16) := ⟨by decide, by decide, by decide, rfl, rfl⟩
theorem add17 : Statement (.add17) := ⟨by decide, by decide, by decide, rfl, rfl⟩
theorem copyVM0 (size : Nat) : Statement (.copyVM0 size) :=
  ⟨(by decide : (19 : Nat) < 256), (by decide : (defaultEntry 19).firstTriple = ⟨.copy, 0, 0⟩),
    (by decide : (defaultEntry 19).secondTriple = ⟨.noop, 0, 0⟩), rfl, rfl⟩
theorem copy4M0 : Statement (.copy4M0) := ⟨by decide, by decide, by decide, rfl, rfl⟩
theorem copy5M0 : Statement (.copy5M0) := ⟨by decide, by decide, by decide, rfl, rfl⟩
theorem copy6M0 : Statement (.copy6M0) := ⟨by decide, by decide, by decide, rfl, rfl⟩
theorem copy7M0 : Statement (.copy7M0) := ⟨by decide, by decide, by decide, rfl, rfl⟩
theorem copy8M0 : Statement (.copy8M0) := ⟨by decide, by decide, by decide, rfl, rfl⟩
theorem copy9M0 : Statement (.copy9M0) := ⟨by decide, by decide, by decide, rfl, rfl⟩
theorem copy10M0 : Statement (.copy10M0) := ⟨by decide, by decide, by decide, rfl, rfl⟩
theorem copy11M0 : Statement (.copy11M0) := ⟨by decide, by decide, by decide, rfl, rfl⟩
theorem copy12M0 : Statement (.copy12M0) := ⟨by decide, by decide, by decide, rfl, rfl⟩
theorem copy13M0 : Statement (.copy13M0) := ⟨by decide, by decide, by decide, rfl, rfl⟩
theorem copy14M0 : Statement (.copy14M0) := ⟨by decide, by decide, by decide, rfl, rfl⟩
theorem copy15M0 : Statement (.copy15M0) := ⟨by decide, by decide, by decide, rfl, rfl⟩
theorem copy16M0 : Statement (.copy16M0) := ⟨by decide, by decide, by decide, rfl, rfl⟩
theorem copy17M0 : Statement (.copy17M0) := ⟨by decide, by decide, by decide, rfl, rfl⟩
theorem copy18M0 : Statement (.copy18M0) := ⟨by decide, by decide, by decide, rfl, rfl⟩
theorem copyVM1 (size : Nat) : Statement (.copyVM1 size) :=
  ⟨(by decide : (35 : Nat) < 256), (by decide : (defaultEntry 35).firstTriple = ⟨.copy, 0, 1⟩),
    (by decide : (defaultEntry 35).secondTriple = ⟨.noop, 0, 0⟩), rfl, rfl⟩
theorem copy4M1 : Statement (.copy4M1) := ⟨by decide, by decide, by decide, rfl, rfl⟩
theorem copy5M1 : Statement (.copy5M1) := ⟨by decide, by decide, by decide, rfl, rfl⟩
theorem copy6M1 : Statement (.copy6M1) := ⟨by decide, by decide, by decide, rfl, rfl⟩
theorem copy7M1 : Statement (.copy7M1) := ⟨by decide, by decide, by decide, rfl, rfl⟩
theorem copy8M1 : Statement (.copy8M1) := ⟨by decide, by decide, by decide, rfl, rfl⟩
theorem copy9M1 : Statement (.copy9M1) := ⟨by decide, by decide, by decide, rfl, rfl⟩
theorem copy10M1 : Statement (.copy10M1) := ⟨by decide, by decide, by decide, rfl, rfl⟩
theorem copy11M1 : Statement (.copy11M1) := ⟨by decide, by decide, by decide, rfl, rfl⟩
theorem copy12M1 : Statement (.copy12M1) := ⟨by decide, by decide, by decide, rfl, rfl⟩
theorem copy13M1 : Statement (.copy13M1) := ⟨by decide, by decide, by decide, rfl, rfl⟩
theorem copy14M1 : Statement (.copy14M1) := ⟨by decide, by decide, by decide, rfl, rfl⟩
theorem copy15M1 : Statement (.copy15M1) := ⟨by decide, by decide, by decide, rfl, rfl⟩
theorem copy16M1 : Statement (.copy16M1) := ⟨by decide, by decide, by decide, rfl, rfl⟩
theorem copy17M1 : Statement (.copy17M1) := ⟨by decide, by decide, by decide, rfl, rfl⟩
theorem copy18M1 : Statement (.copy18M1) := ⟨by decide, by decide, by decide, rfl, rfl⟩
theorem copyVM2 (size : Nat) : Statement (.copyVM2 size) :=
  ⟨(by decide : (51 : Nat) < 256), (by decide : (defaultEntry 51).firstTriple = ⟨.copy, 0, 2⟩),
    (by decide : (defaultEntry 51).secondTriple = ⟨.noop, 0, 0⟩), rfl, rfl⟩
theorem copy4M2 : Statement (.copy4M2) := ⟨by decide, by decide, by decide, rfl, rfl⟩
theorem copy5M2 : Statement (.copy5M2) := ⟨by decide, by decide, by decide, rfl, rfl⟩
theorem copy6M2 : Statement (.copy6M2) := ⟨by decide, by decide, by decide, rfl, rfl⟩
theorem copy7M2 : Statement (.copy7M2) := ⟨by decide, by decide, by decide, rfl, rfl⟩
theorem copy8M2 : Statement (.copy8M2) := ⟨by decide, by decide, by decide, rfl, rfl⟩
theorem copy9M2 : Statement (.copy9M2) := ⟨by decide, by decide, by decide, rfl, rfl⟩
theorem copy10M2 : Statement (.copy10M2) := ⟨by decide, by decide, by decide, rfl, rfl⟩
theorem copy11M2 : Statement (.copy11M2) := ⟨by decide, by decide, by decide, rfl, rfl⟩
theorem copy12M2 : Statement (.copy12M2) := ⟨by decide, by decide, by decide, rfl, rfl⟩
theorem copy13M2 : Statement (.copy13M2) := ⟨by decide, by decide, by decide, rfl, rfl⟩
theorem copy14M2 : Statement (.copy14M2) := ⟨by decide, by decide, by decide, rfl, rfl⟩
theorem copy15M2 : Statement (.copy15M2) := ⟨by decide, by decide, by decide, rfl, rfl⟩
theorem copy16M2 : Statement (.copy16M2) := ⟨by decide, by decide, by decide, rfl, rfl⟩
theorem copy17M2 : Statement (.copy17M2) := ⟨by decide, by decide, by decide, rfl, rfl⟩
theorem copy18M2 : Statement (.copy18M2) := ⟨by decide, by decide, by decide, rfl, rfl⟩
theorem copyVM3 (size : Nat) : Statement (.copyVM3 size) :=
  ⟨(by decide : (67 : Nat) < 256), (by decide : (defaultEntry 67).firstTriple = ⟨.copy, 0, 3⟩),
    (by decide : (defaultEntry 67).secondTriple = ⟨.noop, 0, 0⟩), rfl, rfl⟩
theorem copy4M3 : Statement (.copy4M3) := ⟨by decide, by decide, by decide, rfl, rfl⟩
theorem copy5M3 : Statement (.copy5M3) := ⟨by decide, by decide, by decide, rfl, rfl⟩
theorem copy6M3 : Statement (.copy6M3) := ⟨by decide, by decide, by decide, rfl, rfl⟩
theorem copy7M3 : Statement (.copy7M3) := ⟨by decide, by decide, by decide, rfl, rfl⟩
theorem copy8M3 : Statement (.copy8M3) := ⟨by decide, by decide, by decide, rfl, rfl⟩
theorem copy9M3 : Statement (.copy9M3) := ⟨by decide, by decide, by decide, rfl, rfl⟩
theorem copy10M3 : Statement (.copy10M3) := ⟨by decide, by decide, by decide, rfl, rfl⟩
theorem copy11M3 : Statement (.copy11M3) := ⟨by decide, by decide, by decide, rfl, rfl⟩
theorem copy12M3 : Statement (.copy12M3) := ⟨by decide, by decide, by decide, rfl, rfl⟩
theorem copy13M3 : Statement (.copy13M3) := ⟨by decide, by decide, by decide, rfl, rfl⟩
theorem copy14M3 : Statement (.copy14M3) := ⟨by decide, by decide, by decide, rfl, rfl⟩
theorem copy15M3 : Statement (.copy15M3) := ⟨by decide, by decide, by decide, rfl, rfl⟩
theorem copy16M3 : Statement (.copy16M3) := ⟨by decide, by decide, by decide, rfl, rfl⟩
theorem copy17M3 : Statement (.copy17M3) := ⟨by decide, by decide, by decide, rfl, rfl⟩
theorem copy18M3 : Statement (.copy18M3) := ⟨by decide, by decide, by decide, rfl, rfl⟩
theorem copyVM4 (size : Nat) : Statement (.copyVM4 size) :=
  ⟨(by decide : (83 : Nat) < 256), (by decide : (defaultEntry 83).firstTriple = ⟨.copy, 0, 4⟩),
    (by decide : (defaultEntry 83).secondTriple = ⟨.noop, 0, 0⟩), rfl, rfl⟩
theorem copy4M4 : Statement (.copy4M4) := ⟨by decide, by decide, by decide, rfl, rfl⟩
theorem copy5M4 : Statement (.copy5M4) := ⟨by decide, by decide, by decide, rfl, rfl⟩
theorem copy6M4 : Statement (.copy6M4) := ⟨by decide, by decide, by decide, rfl, rfl⟩
theorem copy7M4 : Statement (.copy7M4) := ⟨by decide, by decide, by decide, rfl, rfl⟩
theorem copy8M4 : Statement (.copy8M4) := ⟨by decide, by decide, by decide, rfl, rfl⟩
theorem copy9M4 : Statement (.copy9M4) := ⟨by decide, by decide, by decide, rfl, rfl⟩
theorem copy10M4 : Statement (.copy10M4) := ⟨by decide, by decide, by decide, rfl, rfl⟩
theorem copy11M4 : Statement (.copy11M4) := ⟨by decide, by decide, by decide, rfl, rfl⟩
theorem copy12M4 : Statement (.copy12M4) := ⟨by decide, by decide, by decide, rfl, rfl⟩
theorem copy13M4 : Statement (.copy13M4) := ⟨by decide, by decide, by decide, rfl, rfl⟩
theorem copy14M4 : Statement (.copy14M4) := ⟨by decide, by decide, by decide, rfl, rfl⟩
theorem copy15M4 : Statement (.copy15M4) := ⟨by decide, by decide, by decide, rfl, rfl⟩
theorem copy16M4 : Statement (.copy16M4) := ⟨by decide, by decide, by decide, rfl, rfl⟩
theorem copy17M4 : Statement (.copy17M4) := ⟨by decide, by decide, by decide, rfl, rfl⟩
theorem copy18M4 : Statement (.copy18M4) := ⟨by decide, by decide, by decide, rfl, rfl⟩
theorem copyVM5 (size : Nat) : Statement (.copyVM5 size) :=
  ⟨(by decide : (99 : Nat) < 256), (by decide : (defaultEntry 99).firstTriple = ⟨.copy, 0, 5⟩),
    (by decide : (defaultEntry 99).secondTriple = ⟨.noop, 0, 0⟩), rfl, rfl⟩
theorem copy4M5 : Statement (.copy4M5) := ⟨by decide, by decide, by decide, rfl, rfl⟩
theorem copy5M5 : Statement (.copy5M5) := ⟨by decide, by decide, by decide, rfl, rfl⟩
theorem copy6M5 : Statement (.copy6M5) := ⟨by decide, by decide, by decide, rfl, rfl⟩
theorem copy7M5 : Statement (.copy7M5) := ⟨by decide, by decide, by decide, rfl, rfl⟩
theorem copy8M5 : Statement (.copy8M5) := ⟨by decide, by decide, by decide, rfl, rfl⟩
theorem copy9M5 : Statement (.copy9M5) := ⟨by decide, by decide, by decide, rfl, rfl⟩
theorem copy10M5 : Statement (.copy10M5) := ⟨by decide, by decide, by decide, rfl, rfl⟩
theorem copy11M5 : Statement (.copy11M5) := ⟨by decide, by decide, by decide, rfl, rfl⟩
theorem copy12M5 : Statement (.copy12M5) := ⟨by decide, by decide, by decide, rfl, rfl⟩
theorem copy13M5 : Statement (.copy13M5) := ⟨by decide, by decide, by decide, rfl, rfl⟩
theorem copy14M5 : Statement (.copy14M5) := ⟨by decide, by decide, by decide, rfl, rfl⟩
theorem copy15M5 : Statement (.copy15M5) := ⟨by decide, by decide, by decide, rfl, rfl⟩
theorem copy16M5 : Statement (.copy16M5) := ⟨by decide, by decide, by decide, rfl, rfl⟩
theorem copy17M5 : Statement (.copy17M5) := ⟨by decide, by decide, by decide, rfl, rfl⟩
theorem copy18M5 : Statement (.copy18M5) := ⟨by decide, by decide, by decide, rfl, rfl⟩
theorem copyVM6 (size : Nat) : Statement (.copyVM6 size) :=
  ⟨(by decide : (115 : Nat) < 256), (by decide : (defaultEntry 115).firstTriple = ⟨.copy, 0, 6⟩),
    (by decide : (defaultEntry 115).secondTriple = ⟨.noop, 0, 0⟩), rfl, rfl⟩
theorem copy4M6 : Statement (.copy4M6) := ⟨by decide, by decide, by decide, rfl, rfl⟩
theorem copy5M6 : Statement (.copy5M6) := ⟨by decide, by decide, by decide, rfl, rfl⟩
theorem copy6M6 : Statement (.copy6M6) := ⟨by decide, by decide, by decide, rfl, rfl⟩
theorem copy7M6 : Statement (.copy7M6) := ⟨by decide, by decide, by decide, rfl, rfl⟩
theorem copy8M6 : Statement (.copy8M6) := ⟨by decide, by decide, by decide, rfl, rfl⟩
theorem copy9M6 : Statement (.copy9M6) := ⟨by decide, by decide, by decide, rfl, rfl⟩
theorem copy10M6 : Statement (.copy10M6) := ⟨by decide, by decide, by decide, rfl, rfl⟩
theorem copy11M6 : Statement (.copy11M6) := ⟨by decide, by decide, by decide, rfl, rfl⟩
theorem copy12M6 : Statement (.copy12M6) := ⟨by decide, by decide, by decide, rfl, rfl⟩
theorem copy13M6 : Statement (.copy13M6) := ⟨by decide, by decide, by decide, rfl, rfl⟩
theorem copy14M6 : Statement (.copy14M6) := ⟨by decide, by decide, by decide, rfl, rfl⟩
theorem copy15M6 : Statement (.copy15M6) := ⟨by decide, by decide, by decide, rfl, rfl⟩
theorem copy16M6 : Statement (.copy16M6) := ⟨by decide, by decide, by decide, rfl, rfl⟩
theorem copy17M6 : Statement (.copy17M6) := ⟨by decide, by decide, by decide, rfl, rfl⟩
theorem copy18M6 : Statement (.copy18M6) := ⟨by decide, by decide, by decide, rfl, rfl⟩
theorem copyVM7 (size : Nat) : Statement (.copyVM7 size) :=
  ⟨(by decide : (131 : Nat) < 256), (by decide : (defaultEntry 131).firstTriple = ⟨.copy, 0, 7⟩),
    (by decide : (defaultEntry 131).secondTriple = ⟨.noop, 0, 0⟩), rfl, rfl⟩
theorem copy4M7 : Statement (.copy4M7) := ⟨by decide, by decide, by decide, rfl, rfl⟩
theorem copy5M7 : Statement (.copy5M7) := ⟨by decide, by decide, by decide, rfl, rfl⟩
theorem copy6M7 : Statement (.copy6M7) := ⟨by decide, by decide, by decide, rfl, rfl⟩
theorem copy7M7 : Statement (.copy7M7) := ⟨by decide, by decide, by decide, rfl, rfl⟩
theorem copy8M7 : Statement (.copy8M7) := ⟨by decide, by decide, by decide, rfl, rfl⟩
theorem copy9M7 : Statement (.copy9M7) := ⟨by decide, by decide, by decide, rfl, rfl⟩
theorem copy10M7 : Statement (.copy10M7) := ⟨by decide, by decide, by decide, rfl, rfl⟩
theorem copy11M7 : Statement (.copy11M7) := ⟨by decide, by decide, by decide, rfl, rfl⟩
theorem copy12M7 : Statement (.copy12M7) := ⟨by decide, by decide, by decide, rfl, rfl⟩
theorem copy13M7 : Statement (.copy13M7) := ⟨by decide, by decide, by decide, rfl, rfl⟩
theorem copy14M7 : Statement (.copy14M7) := ⟨by decide, by decide, by decide, rfl, rfl⟩
theorem copy15M7 : Statement (.copy15M7) := ⟨by decide, by decide, by decide, rfl, rfl⟩
theorem copy16M7 : Statement (.copy16M7) := ⟨by decide, by decide, by decide, rfl, rfl⟩
theorem copy17M7 : Statement (.copy17M7) := ⟨by decide, by decide, by decide, rfl, rfl⟩
theorem copy18M7 : Statement (.copy18M7) := ⟨by decide, by decide, by decide, rfl, rfl⟩
theorem copyVM8 (size : Nat) : Statement (.copyVM8 size) :=
  ⟨(by decide : (147 : Nat) < 256), (by decide : (defaultEntry 147).firstTriple = ⟨.copy, 0, 8⟩),
    (by decide : (defaultEntry 147).secondTriple = ⟨.noop, 0, 0⟩), rfl, rfl⟩
theorem copy4M8 : Statement (.copy4M8) := ⟨by decide, by decide, by decide, rfl, rfl⟩
theorem copy5M8 : Statement (.copy5M8) := ⟨by decide, by decide, by decide, rfl, rfl⟩
theorem copy6M8 : Statement (.copy6M8) := ⟨by decide, by decide, by decide, rfl, rfl⟩
theorem copy7M8 : Statement (.copy7M8) := ⟨by decide, by decide, by decide, rfl, rfl⟩
theorem copy8M8 : Statement (.copy8M8) := ⟨by decide, by decide, by decide, rfl, rfl⟩
theorem copy9M8 : Statement (.copy9M8) := ⟨by decide, by decide, by decide, rfl, rfl⟩
theorem copy10M8 : Statement (.copy10M8) := ⟨by decide, by decide, by decide, rfl, rfl⟩
theorem copy11M8 : Statement (.copy11M8) := ⟨by decide, by decide, by decide, rfl, rfl⟩
theorem copy12M8 : Statement (.copy12M8) := ⟨by decide, by decide, by decide, rfl, rfl⟩
theorem copy13M8 : Statement (.copy13M8) := ⟨by decide, by decide, by decide, rfl, rfl⟩
theorem copy14M8 : Statement (.copy14M8) := ⟨by decide, by decide, by decide, rfl, rfl⟩
theorem copy15M8 : Statement (.copy15M8) := ⟨by decide, by decide, by decide, rfl, rfl⟩
theorem copy16M8 : Statement (.copy16M8) := ⟨by decide, by decide, by decide, rfl, rfl⟩
theorem copy17M8 : Statement (.copy17M8) := ⟨by decide, by decide, by decide, rfl, rfl⟩
theorem copy18M8 : Statement (.copy18M8) := ⟨by decide, by decide, by decide, rfl, rfl⟩
theorem add1Copy4M0 : Statement (.add1Copy4M0) := ⟨by decide, by decide, by decide, rfl, rfl⟩
theorem add1Copy5M0 : Statement (.add1Copy5M0) := ⟨by decide, by decide, by decide, rfl, rfl⟩
theorem add1Copy6M0 : Statement (.add1Copy6M0) := ⟨by decide, by decide, by decide, rfl, rfl⟩
theorem add2Copy4M0 : Statement (.add2Copy4M0) := ⟨by decide, by decide, by decide, rfl, rfl⟩
theorem add2Copy5M0 : Statement (.add2Copy5M0) := ⟨by decide, by decide, by decide, rfl, rfl⟩
theorem add2Copy6M0 : Statement (.add2Copy6M0) := ⟨by decide, by decide, by decide, rfl, rfl⟩
theorem add3Copy4M0 : Statement (.add3Copy4M0) := ⟨by decide, by decide, by decide, rfl, rfl⟩
theorem add3Copy5M0 : Statement (.add3Copy5M0) := ⟨by decide, by decide, by decide, rfl, rfl⟩
theorem add3Copy6M0 : Statement (.add3Copy6M0) := ⟨by decide, by decide, by decide, rfl, rfl⟩
theorem add4Copy4M0 : Statement (.add4Copy4M0) := ⟨by decide, by decide, by decide, rfl, rfl⟩
theorem add4Copy5M0 : Statement (.add4Copy5M0) := ⟨by decide, by decide, by decide, rfl, rfl⟩
theorem add4Copy6M0 : Statement (.add4Copy6M0) := ⟨by decide, by decide, by decide, rfl, rfl⟩
theorem add1Copy4M1 : Statement (.add1Copy4M1) := ⟨by decide, by decide, by decide, rfl, rfl⟩
theorem add1Copy5M1 : Statement (.add1Copy5M1) := ⟨by decide, by decide, by decide, rfl, rfl⟩
theorem add1Copy6M1 : Statement (.add1Copy6M1) := ⟨by decide, by decide, by decide, rfl, rfl⟩
theorem add2Copy4M1 : Statement (.add2Copy4M1) := ⟨by decide, by decide, by decide, rfl, rfl⟩
theorem add2Copy5M1 : Statement (.add2Copy5M1) := ⟨by decide, by decide, by decide, rfl, rfl⟩
theorem add2Copy6M1 : Statement (.add2Copy6M1) := ⟨by decide, by decide, by decide, rfl, rfl⟩
theorem add3Copy4M1 : Statement (.add3Copy4M1) := ⟨by decide, by decide, by decide, rfl, rfl⟩
theorem add3Copy5M1 : Statement (.add3Copy5M1) := ⟨by decide, by decide, by decide, rfl, rfl⟩
theorem add3Copy6M1 : Statement (.add3Copy6M1) := ⟨by decide, by decide, by decide, rfl, rfl⟩
theorem add4Copy4M1 : Statement (.add4Copy4M1) := ⟨by decide, by decide, by decide, rfl, rfl⟩
theorem add4Copy5M1 : Statement (.add4Copy5M1) := ⟨by decide, by decide, by decide, rfl, rfl⟩
theorem add4Copy6M1 : Statement (.add4Copy6M1) := ⟨by decide, by decide, by decide, rfl, rfl⟩
theorem add1Copy4M2 : Statement (.add1Copy4M2) := ⟨by decide, by decide, by decide, rfl, rfl⟩
theorem add1Copy5M2 : Statement (.add1Copy5M2) := ⟨by decide, by decide, by decide, rfl, rfl⟩
theorem add1Copy6M2 : Statement (.add1Copy6M2) := ⟨by decide, by decide, by decide, rfl, rfl⟩
theorem add2Copy4M2 : Statement (.add2Copy4M2) := ⟨by decide, by decide, by decide, rfl, rfl⟩
theorem add2Copy5M2 : Statement (.add2Copy5M2) := ⟨by decide, by decide, by decide, rfl, rfl⟩
theorem add2Copy6M2 : Statement (.add2Copy6M2) := ⟨by decide, by decide, by decide, rfl, rfl⟩
theorem add3Copy4M2 : Statement (.add3Copy4M2) := ⟨by decide, by decide, by decide, rfl, rfl⟩
theorem add3Copy5M2 : Statement (.add3Copy5M2) := ⟨by decide, by decide, by decide, rfl, rfl⟩
theorem add3Copy6M2 : Statement (.add3Copy6M2) := ⟨by decide, by decide, by decide, rfl, rfl⟩
theorem add4Copy4M2 : Statement (.add4Copy4M2) := ⟨by decide, by decide, by decide, rfl, rfl⟩
theorem add4Copy5M2 : Statement (.add4Copy5M2) := ⟨by decide, by decide, by decide, rfl, rfl⟩
theorem add4Copy6M2 : Statement (.add4Copy6M2) := ⟨by decide, by decide, by decide, rfl, rfl⟩
theorem add1Copy4M3 : Statement (.add1Copy4M3) := ⟨by decide, by decide, by decide, rfl, rfl⟩
theorem add1Copy5M3 : Statement (.add1Copy5M3) := ⟨by decide, by decide, by decide, rfl, rfl⟩
theorem add1Copy6M3 : Statement (.add1Copy6M3) := ⟨by decide, by decide, by decide, rfl, rfl⟩
theorem add2Copy4M3 : Statement (.add2Copy4M3) := ⟨by decide, by decide, by decide, rfl, rfl⟩
theorem add2Copy5M3 : Statement (.add2Copy5M3) := ⟨by decide, by decide, by decide, rfl, rfl⟩
theorem add2Copy6M3 : Statement (.add2Copy6M3) := ⟨by decide, by decide, by decide, rfl, rfl⟩
theorem add3Copy4M3 : Statement (.add3Copy4M3) := ⟨by decide, by decide, by decide, rfl, rfl⟩
theorem add3Copy5M3 : Statement (.add3Copy5M3) := ⟨by decide, by decide, by decide, rfl, rfl⟩
theorem add3Copy6M3 : Statement (.add3Copy6M3) := ⟨by decide, by decide, by decide, rfl, rfl⟩
theorem add4Copy4M3 : Statement (.add4Copy4M3) := ⟨by decide, by decide, by decide, rfl, rfl⟩
theorem add4Copy5M3 : Statement (.add4Copy5M3) := ⟨by decide, by decide, by decide, rfl, rfl⟩
theorem add4Copy6M3 : Statement (.add4Copy6M3) := ⟨by decide, by decide, by decide, rfl, rfl⟩
theorem add1Copy4M4 : Statement (.add1Copy4M4) := ⟨by decide, by decide, by decide, rfl, rfl⟩
theorem add1Copy5M4 : Statement (.add1Copy5M4) := ⟨by decide, by decide, by decide, rfl, rfl⟩
theorem add1Copy6M4 : Statement (.add1Copy6M4) := ⟨by decide, by decide, by decide, rfl, rfl⟩
theorem add2Copy4M4 : Statement (.add2Copy4M4) := ⟨by decide, by decide, by decide, rfl, rfl⟩
theorem add2Copy5M4 : Statement (.add2Copy5M4) := ⟨by decide, by decide, by decide, rfl, rfl⟩
theorem add2Copy6M4 : Statement (.add2Copy6M4) := ⟨by decide, by decide, by decide, rfl, rfl⟩
theorem add3Copy4M4 : Statement (.add3Copy4M4) := ⟨by decide, by decide, by decide, rfl, rfl⟩
theorem add3Copy5M4 : Statement (.add3Copy5M4) := ⟨by decide, by decide, by decide, rfl, rfl⟩
theorem add3Copy6M4 : Statement (.add3Copy6M4) := ⟨by decide, by decide, by decide, rfl, rfl⟩
theorem add4Copy4M4 : Statement (.add4Copy4M4) := ⟨by decide, by decide, by decide, rfl, rfl⟩
theorem add4Copy5M4 : Statement (.add4Copy5M4) := ⟨by decide, by decide, by decide, rfl, rfl⟩
theorem add4Copy6M4 : Statement (.add4Copy6M4) := ⟨by decide, by decide, by decide, rfl, rfl⟩
theorem add1Copy4M5 : Statement (.add1Copy4M5) := ⟨by decide, by decide, by decide, rfl, rfl⟩
theorem add1Copy5M5 : Statement (.add1Copy5M5) := ⟨by decide, by decide, by decide, rfl, rfl⟩
theorem add1Copy6M5 : Statement (.add1Copy6M5) := ⟨by decide, by decide, by decide, rfl, rfl⟩
theorem add2Copy4M5 : Statement (.add2Copy4M5) := ⟨by decide, by decide, by decide, rfl, rfl⟩
theorem add2Copy5M5 : Statement (.add2Copy5M5) := ⟨by decide, by decide, by decide, rfl, rfl⟩
theorem add2Copy6M5 : Statement (.add2Copy6M5) := ⟨by decide, by decide, by decide, rfl, rfl⟩
theorem add3Copy4M5 : Statement (.add3Copy4M5) := ⟨by decide, by decide, by decide, rfl, rfl⟩
theorem add3Copy5M5 : Statement (.add3Copy5M5) := ⟨by decide, by decide, by decide, rfl, rfl⟩
theorem add3Copy6M5 : Statement (.add3Copy6M5) := ⟨by decide, by decide, by decide, rfl, rfl⟩
theorem add4Copy4M5 : Statement (.add4Copy4M5) := ⟨by decide, by decide, by decide, rfl, rfl⟩
theorem add4Copy5M5 : Statement (.add4Copy5M5) := ⟨by decide, by decide, by decide, rfl, rfl⟩
theorem add4Copy6M5 : Statement (.add4Copy6M5) := ⟨by decide, by decide, by decide, rfl, rfl⟩
theorem add1Copy4M6 : Statement (.add1Copy4M6) := ⟨by decide, by decide, by decide, rfl, rfl⟩
theorem add2Copy4M6 : Statement (.add2Copy4M6) := ⟨by decide, by decide, by decide, rfl, rfl⟩
theorem add3Copy4M6 : Statement (.add3Copy4M6) := ⟨by decide, by decide, by decide, rfl, rfl⟩
theorem add4Copy4M6 : Statement (.add4Copy4M6) := ⟨by decide, by decide, by decide, rfl, rfl⟩
theorem add1Copy4M7 : Statement (.add1Copy4M7) := ⟨by decide, by decide, by decide, rfl, rfl⟩
theorem add2Copy4M7 : Statement (.add2Copy4M7) := ⟨by decide, by decide, by decide, rfl, rfl⟩
theorem add3Copy4M7 : Statement (.add3Copy4M7) := ⟨by decide, by decide, by decide, rfl, rfl⟩
theorem add4Copy4M7 : Statement (.add4Copy4M7) := ⟨by decide, by decide, by decide, rfl, rfl⟩
theorem add1Copy4M8 : Statement (.add1Copy4M8) := ⟨by decide, by decide, by decide, rfl, rfl⟩
theorem add2Copy4M8 : Statement (.add2Copy4M8) := ⟨by decide, by decide, by decide, rfl, rfl⟩
theorem add3Copy4M8 : Statement (.add3Copy4M8) := ⟨by decide, by decide, by decide, rfl, rfl⟩
theorem add4Copy4M8 : Statement (.add4Copy4M8) := ⟨by decide, by decide, by decide, rfl, rfl⟩
theorem copy4M0Add1 : Statement (.copy4M0Add1) := ⟨by decide, by decide, by decide, rfl, rfl⟩
theorem copy4M1Add1 : Statement (.copy4M1Add1) := ⟨by decide, by decide, by decide, rfl, rfl⟩
theorem copy4M2Add1 : Statement (.copy4M2Add1) := ⟨by decide, by decide, by decide, rfl, rfl⟩
theorem copy4M3Add1 : Statement (.copy4M3Add1) := ⟨by decide, by decide, by decide, rfl, rfl⟩
theorem copy4M4Add1 : Statement (.copy4M4Add1) := ⟨by decide, by decide, by decide, rfl, rfl⟩
theorem copy4M5Add1 : Statement (.copy4M5Add1) := ⟨by decide, by decide, by decide, rfl, rfl⟩
theorem copy4M6Add1 : Statement (.copy4M6Add1) := ⟨by decide, by decide, by decide, rfl, rfl⟩
theorem copy4M7Add1 : Statement (.copy4M7Add1) := ⟨by decide, by decide, by decide, rfl, rfl⟩
theorem copy4M8Add1 : Statement (.copy4M8Add1) := ⟨by decide, by decide, by decide, rfl, rfl⟩

end Sys2Proof.Laws.Table
end

