-- ==== Sys2Proof/Laws/Encoding.lean ====
section
/-! SUPPORT. The varint codec and the decoder of one instruction: their recursion equations, and the row of every instruction. -/

namespace Sys2Proof

/-! ### The varint -/

theorem varintLenFrom_fuel (f g v : Nat) (hf : v ≤ f) (hg : v ≤ g) : varintLenFrom f v = varintLenFrom g v := by
  induction f generalizing g v with
  | zero =>
    obtain rfl : v = 0 := by omega
    cases g <;> simp [varintLenFrom]
  | succ f ih =>
    cases g with
    | zero =>
      obtain rfl : v = 0 := by omega
      simp [varintLenFrom]
    | succ g =>
      simp only [varintLenFrom]
      split
      · rfl
      · rw [ih g (v / 128) (by omega) (by omega)]

theorem varintLen_of_lt {v : Nat} (h : v < 128) : varintLen v = 1 := by
  unfold varintLen; cases v <;> simp [varintLenFrom, h]

/-- R100's loop, one pass. -/
theorem varintLen_of_ge {v : Nat} (h : 128 ≤ v) : varintLen v = varintLen (v / 128) + 1 := by
  unfold varintLen
  obtain ⟨w, rfl⟩ : ∃ w, v = w + 1 := ⟨v - 1, by omega⟩
  simp only [varintLenFrom, Nat.not_lt.mpr h, if_false]
  rw [varintLenFrom_fuel w ((w + 1) / 128) _ (by omega) (by omega)]

theorem varintLen_pos (v : Nat) : 1 ≤ varintLen v := by
  by_cases h : v < 128
  · simp [varintLen_of_lt h]
  · simp [varintLen_of_ge (Nat.not_lt.mp h)]

@[simp] theorem varintGroups_length (v k : Nat) : (varintGroups v k).length = k := by
  induction k with
  | zero => rfl
  | succ k ih => simp [varintGroups, ih]

/-- The value of a group byte: seven bits, and bit 7 on all but the last. -/
theorem varintGroup_toNat (v k : Nat) :
    (BitVec.ofNat 8 (v / 128 ^ k % 128 + if k = 0 then 0 else 128)).toNat = v / 128 ^ k % 128 + if k = 0 then 0 else 128 := by
  have h : v / 128 ^ k % 128 < 128 := Nat.mod_lt _ (by decide)
  simp only [BitVec.toNat_ofNat]
  split <;> omega

/-- The groups above `k`, followed by group `k`. -/
theorem varintGroup_div (v k : Nat) : v / 128 ^ k = 128 * (v / 128 ^ (k + 1)) + v / 128 ^ k % 128 := by
  have : v / 128 ^ (k + 1) = v / 128 ^ k / 128 := by rw [Nat.div_div_eq_div_mul, Nat.pow_succ]
  omega

/-! ### The rows -/

/-- The law `Table` for every instruction. -/
theorem Instr.table_row : (i : Instr) → Laws.Table.Statement i
  | .runV size => Laws.Table.runV size
  | .addV size => Laws.Table.addV size
  | .add1 => Laws.Table.add1
  | .add2 => Laws.Table.add2
  | .add3 => Laws.Table.add3
  | .add4 => Laws.Table.add4
  | .add5 => Laws.Table.add5
  | .add6 => Laws.Table.add6
  | .add7 => Laws.Table.add7
  | .add8 => Laws.Table.add8
  | .add9 => Laws.Table.add9
  | .add10 => Laws.Table.add10
  | .add11 => Laws.Table.add11
  | .add12 => Laws.Table.add12
  | .add13 => Laws.Table.add13
  | .add14 => Laws.Table.add14
  | .add15 => Laws.Table.add15
  | .add16 => Laws.Table.add16
  | .add17 => Laws.Table.add17
  | .copyVM0 size => Laws.Table.copyVM0 size
  | .copy4M0 => Laws.Table.copy4M0
  | .copy5M0 => Laws.Table.copy5M0
  | .copy6M0 => Laws.Table.copy6M0
  | .copy7M0 => Laws.Table.copy7M0
  | .copy8M0 => Laws.Table.copy8M0
  | .copy9M0 => Laws.Table.copy9M0
  | .copy10M0 => Laws.Table.copy10M0
  | .copy11M0 => Laws.Table.copy11M0
  | .copy12M0 => Laws.Table.copy12M0
  | .copy13M0 => Laws.Table.copy13M0
  | .copy14M0 => Laws.Table.copy14M0
  | .copy15M0 => Laws.Table.copy15M0
  | .copy16M0 => Laws.Table.copy16M0
  | .copy17M0 => Laws.Table.copy17M0
  | .copy18M0 => Laws.Table.copy18M0
  | .copyVM1 size => Laws.Table.copyVM1 size
  | .copy4M1 => Laws.Table.copy4M1
  | .copy5M1 => Laws.Table.copy5M1
  | .copy6M1 => Laws.Table.copy6M1
  | .copy7M1 => Laws.Table.copy7M1
  | .copy8M1 => Laws.Table.copy8M1
  | .copy9M1 => Laws.Table.copy9M1
  | .copy10M1 => Laws.Table.copy10M1
  | .copy11M1 => Laws.Table.copy11M1
  | .copy12M1 => Laws.Table.copy12M1
  | .copy13M1 => Laws.Table.copy13M1
  | .copy14M1 => Laws.Table.copy14M1
  | .copy15M1 => Laws.Table.copy15M1
  | .copy16M1 => Laws.Table.copy16M1
  | .copy17M1 => Laws.Table.copy17M1
  | .copy18M1 => Laws.Table.copy18M1
  | .copyVM2 size => Laws.Table.copyVM2 size
  | .copy4M2 => Laws.Table.copy4M2
  | .copy5M2 => Laws.Table.copy5M2
  | .copy6M2 => Laws.Table.copy6M2
  | .copy7M2 => Laws.Table.copy7M2
  | .copy8M2 => Laws.Table.copy8M2
  | .copy9M2 => Laws.Table.copy9M2
  | .copy10M2 => Laws.Table.copy10M2
  | .copy11M2 => Laws.Table.copy11M2
  | .copy12M2 => Laws.Table.copy12M2
  | .copy13M2 => Laws.Table.copy13M2
  | .copy14M2 => Laws.Table.copy14M2
  | .copy15M2 => Laws.Table.copy15M2
  | .copy16M2 => Laws.Table.copy16M2
  | .copy17M2 => Laws.Table.copy17M2
  | .copy18M2 => Laws.Table.copy18M2
  | .copyVM3 size => Laws.Table.copyVM3 size
  | .copy4M3 => Laws.Table.copy4M3
  | .copy5M3 => Laws.Table.copy5M3
  | .copy6M3 => Laws.Table.copy6M3
  | .copy7M3 => Laws.Table.copy7M3
  | .copy8M3 => Laws.Table.copy8M3
  | .copy9M3 => Laws.Table.copy9M3
  | .copy10M3 => Laws.Table.copy10M3
  | .copy11M3 => Laws.Table.copy11M3
  | .copy12M3 => Laws.Table.copy12M3
  | .copy13M3 => Laws.Table.copy13M3
  | .copy14M3 => Laws.Table.copy14M3
  | .copy15M3 => Laws.Table.copy15M3
  | .copy16M3 => Laws.Table.copy16M3
  | .copy17M3 => Laws.Table.copy17M3
  | .copy18M3 => Laws.Table.copy18M3
  | .copyVM4 size => Laws.Table.copyVM4 size
  | .copy4M4 => Laws.Table.copy4M4
  | .copy5M4 => Laws.Table.copy5M4
  | .copy6M4 => Laws.Table.copy6M4
  | .copy7M4 => Laws.Table.copy7M4
  | .copy8M4 => Laws.Table.copy8M4
  | .copy9M4 => Laws.Table.copy9M4
  | .copy10M4 => Laws.Table.copy10M4
  | .copy11M4 => Laws.Table.copy11M4
  | .copy12M4 => Laws.Table.copy12M4
  | .copy13M4 => Laws.Table.copy13M4
  | .copy14M4 => Laws.Table.copy14M4
  | .copy15M4 => Laws.Table.copy15M4
  | .copy16M4 => Laws.Table.copy16M4
  | .copy17M4 => Laws.Table.copy17M4
  | .copy18M4 => Laws.Table.copy18M4
  | .copyVM5 size => Laws.Table.copyVM5 size
  | .copy4M5 => Laws.Table.copy4M5
  | .copy5M5 => Laws.Table.copy5M5
  | .copy6M5 => Laws.Table.copy6M5
  | .copy7M5 => Laws.Table.copy7M5
  | .copy8M5 => Laws.Table.copy8M5
  | .copy9M5 => Laws.Table.copy9M5
  | .copy10M5 => Laws.Table.copy10M5
  | .copy11M5 => Laws.Table.copy11M5
  | .copy12M5 => Laws.Table.copy12M5
  | .copy13M5 => Laws.Table.copy13M5
  | .copy14M5 => Laws.Table.copy14M5
  | .copy15M5 => Laws.Table.copy15M5
  | .copy16M5 => Laws.Table.copy16M5
  | .copy17M5 => Laws.Table.copy17M5
  | .copy18M5 => Laws.Table.copy18M5
  | .copyVM6 size => Laws.Table.copyVM6 size
  | .copy4M6 => Laws.Table.copy4M6
  | .copy5M6 => Laws.Table.copy5M6
  | .copy6M6 => Laws.Table.copy6M6
  | .copy7M6 => Laws.Table.copy7M6
  | .copy8M6 => Laws.Table.copy8M6
  | .copy9M6 => Laws.Table.copy9M6
  | .copy10M6 => Laws.Table.copy10M6
  | .copy11M6 => Laws.Table.copy11M6
  | .copy12M6 => Laws.Table.copy12M6
  | .copy13M6 => Laws.Table.copy13M6
  | .copy14M6 => Laws.Table.copy14M6
  | .copy15M6 => Laws.Table.copy15M6
  | .copy16M6 => Laws.Table.copy16M6
  | .copy17M6 => Laws.Table.copy17M6
  | .copy18M6 => Laws.Table.copy18M6
  | .copyVM7 size => Laws.Table.copyVM7 size
  | .copy4M7 => Laws.Table.copy4M7
  | .copy5M7 => Laws.Table.copy5M7
  | .copy6M7 => Laws.Table.copy6M7
  | .copy7M7 => Laws.Table.copy7M7
  | .copy8M7 => Laws.Table.copy8M7
  | .copy9M7 => Laws.Table.copy9M7
  | .copy10M7 => Laws.Table.copy10M7
  | .copy11M7 => Laws.Table.copy11M7
  | .copy12M7 => Laws.Table.copy12M7
  | .copy13M7 => Laws.Table.copy13M7
  | .copy14M7 => Laws.Table.copy14M7
  | .copy15M7 => Laws.Table.copy15M7
  | .copy16M7 => Laws.Table.copy16M7
  | .copy17M7 => Laws.Table.copy17M7
  | .copy18M7 => Laws.Table.copy18M7
  | .copyVM8 size => Laws.Table.copyVM8 size
  | .copy4M8 => Laws.Table.copy4M8
  | .copy5M8 => Laws.Table.copy5M8
  | .copy6M8 => Laws.Table.copy6M8
  | .copy7M8 => Laws.Table.copy7M8
  | .copy8M8 => Laws.Table.copy8M8
  | .copy9M8 => Laws.Table.copy9M8
  | .copy10M8 => Laws.Table.copy10M8
  | .copy11M8 => Laws.Table.copy11M8
  | .copy12M8 => Laws.Table.copy12M8
  | .copy13M8 => Laws.Table.copy13M8
  | .copy14M8 => Laws.Table.copy14M8
  | .copy15M8 => Laws.Table.copy15M8
  | .copy16M8 => Laws.Table.copy16M8
  | .copy17M8 => Laws.Table.copy17M8
  | .copy18M8 => Laws.Table.copy18M8
  | .add1Copy4M0 => Laws.Table.add1Copy4M0
  | .add1Copy5M0 => Laws.Table.add1Copy5M0
  | .add1Copy6M0 => Laws.Table.add1Copy6M0
  | .add2Copy4M0 => Laws.Table.add2Copy4M0
  | .add2Copy5M0 => Laws.Table.add2Copy5M0
  | .add2Copy6M0 => Laws.Table.add2Copy6M0
  | .add3Copy4M0 => Laws.Table.add3Copy4M0
  | .add3Copy5M0 => Laws.Table.add3Copy5M0
  | .add3Copy6M0 => Laws.Table.add3Copy6M0
  | .add4Copy4M0 => Laws.Table.add4Copy4M0
  | .add4Copy5M0 => Laws.Table.add4Copy5M0
  | .add4Copy6M0 => Laws.Table.add4Copy6M0
  | .add1Copy4M1 => Laws.Table.add1Copy4M1
  | .add1Copy5M1 => Laws.Table.add1Copy5M1
  | .add1Copy6M1 => Laws.Table.add1Copy6M1
  | .add2Copy4M1 => Laws.Table.add2Copy4M1
  | .add2Copy5M1 => Laws.Table.add2Copy5M1
  | .add2Copy6M1 => Laws.Table.add2Copy6M1
  | .add3Copy4M1 => Laws.Table.add3Copy4M1
  | .add3Copy5M1 => Laws.Table.add3Copy5M1
  | .add3Copy6M1 => Laws.Table.add3Copy6M1
  | .add4Copy4M1 => Laws.Table.add4Copy4M1
  | .add4Copy5M1 => Laws.Table.add4Copy5M1
  | .add4Copy6M1 => Laws.Table.add4Copy6M1
  | .add1Copy4M2 => Laws.Table.add1Copy4M2
  | .add1Copy5M2 => Laws.Table.add1Copy5M2
  | .add1Copy6M2 => Laws.Table.add1Copy6M2
  | .add2Copy4M2 => Laws.Table.add2Copy4M2
  | .add2Copy5M2 => Laws.Table.add2Copy5M2
  | .add2Copy6M2 => Laws.Table.add2Copy6M2
  | .add3Copy4M2 => Laws.Table.add3Copy4M2
  | .add3Copy5M2 => Laws.Table.add3Copy5M2
  | .add3Copy6M2 => Laws.Table.add3Copy6M2
  | .add4Copy4M2 => Laws.Table.add4Copy4M2
  | .add4Copy5M2 => Laws.Table.add4Copy5M2
  | .add4Copy6M2 => Laws.Table.add4Copy6M2
  | .add1Copy4M3 => Laws.Table.add1Copy4M3
  | .add1Copy5M3 => Laws.Table.add1Copy5M3
  | .add1Copy6M3 => Laws.Table.add1Copy6M3
  | .add2Copy4M3 => Laws.Table.add2Copy4M3
  | .add2Copy5M3 => Laws.Table.add2Copy5M3
  | .add2Copy6M3 => Laws.Table.add2Copy6M3
  | .add3Copy4M3 => Laws.Table.add3Copy4M3
  | .add3Copy5M3 => Laws.Table.add3Copy5M3
  | .add3Copy6M3 => Laws.Table.add3Copy6M3
  | .add4Copy4M3 => Laws.Table.add4Copy4M3
  | .add4Copy5M3 => Laws.Table.add4Copy5M3
  | .add4Copy6M3 => Laws.Table.add4Copy6M3
  | .add1Copy4M4 => Laws.Table.add1Copy4M4
  | .add1Copy5M4 => Laws.Table.add1Copy5M4
  | .add1Copy6M4 => Laws.Table.add1Copy6M4
  | .add2Copy4M4 => Laws.Table.add2Copy4M4
  | .add2Copy5M4 => Laws.Table.add2Copy5M4
  | .add2Copy6M4 => Laws.Table.add2Copy6M4
  | .add3Copy4M4 => Laws.Table.add3Copy4M4
  | .add3Copy5M4 => Laws.Table.add3Copy5M4
  | .add3Copy6M4 => Laws.Table.add3Copy6M4
  | .add4Copy4M4 => Laws.Table.add4Copy4M4
  | .add4Copy5M4 => Laws.Table.add4Copy5M4
  | .add4Copy6M4 => Laws.Table.add4Copy6M4
  | .add1Copy4M5 => Laws.Table.add1Copy4M5
  | .add1Copy5M5 => Laws.Table.add1Copy5M5
  | .add1Copy6M5 => Laws.Table.add1Copy6M5
  | .add2Copy4M5 => Laws.Table.add2Copy4M5
  | .add2Copy5M5 => Laws.Table.add2Copy5M5
  | .add2Copy6M5 => Laws.Table.add2Copy6M5
  | .add3Copy4M5 => Laws.Table.add3Copy4M5
  | .add3Copy5M5 => Laws.Table.add3Copy5M5
  | .add3Copy6M5 => Laws.Table.add3Copy6M5
  | .add4Copy4M5 => Laws.Table.add4Copy4M5
  | .add4Copy5M5 => Laws.Table.add4Copy5M5
  | .add4Copy6M5 => Laws.Table.add4Copy6M5
  | .add1Copy4M6 => Laws.Table.add1Copy4M6
  | .add2Copy4M6 => Laws.Table.add2Copy4M6
  | .add3Copy4M6 => Laws.Table.add3Copy4M6
  | .add4Copy4M6 => Laws.Table.add4Copy4M6
  | .add1Copy4M7 => Laws.Table.add1Copy4M7
  | .add2Copy4M7 => Laws.Table.add2Copy4M7
  | .add3Copy4M7 => Laws.Table.add3Copy4M7
  | .add4Copy4M7 => Laws.Table.add4Copy4M7
  | .add1Copy4M8 => Laws.Table.add1Copy4M8
  | .add2Copy4M8 => Laws.Table.add2Copy4M8
  | .add3Copy4M8 => Laws.Table.add3Copy4M8
  | .add4Copy4M8 => Laws.Table.add4Copy4M8
  | .copy4M0Add1 => Laws.Table.copy4M0Add1
  | .copy4M1Add1 => Laws.Table.copy4M1Add1
  | .copy4M2Add1 => Laws.Table.copy4M2Add1
  | .copy4M3Add1 => Laws.Table.copy4M3Add1
  | .copy4M4Add1 => Laws.Table.copy4M4Add1
  | .copy4M5Add1 => Laws.Table.copy4M5Add1
  | .copy4M6Add1 => Laws.Table.copy4M6Add1
  | .copy4M7Add1 => Laws.Table.copy4M7Add1
  | .copy4M8Add1 => Laws.Table.copy4M8Add1

theorem Instr.opcode_lt (i : Instr) : i.opcode < 256 :=
  i.table_row.1

@[simp] theorem Instr.opcode_byte (i : Instr) : (BitVec.ofNat 8 i.opcode).toNat = i.opcode := by
  have := i.opcode_lt
  simp only [BitVec.toNat_ofNat]
  omega

end Sys2Proof
end

