-- ==== Sys2Proof/Laws/Codec.lean ====
section
/-! SUPPORT. The codecs: the bytes of a varint and how they read back, group by group; the choice of an address mode; the decoded address. -/

namespace Sys2Proof

/-! ### The varint (spec/40_varint.md R100 to R104) -/

/-- R100: a value has as many groups as it needs, and no fewer. -/
theorem varintLen_bounds (v : Nat) : 1 ≤ varintLen v ∧ v < 128 ^ varintLen v ∧ (1 < varintLen v → 128 ^ (varintLen v - 1) ≤ v) := by
  induction v using Nat.strong_induction_on with
  | _ v ih =>
    by_cases h : v < 128
    · rw [varintLen_of_lt h]; simp; omega
    · have h' := Nat.not_lt.mp h
      rw [varintLen_of_ge h']
      obtain ⟨h1, h2, h3⟩ := ih (v/128) (by omega)
      refine ⟨by omega, ?_, ?_⟩
      · rw [pow_succ]; omega
      · intro _
        simp only [Nat.add_sub_cancel]
        by_cases hq : 1 < varintLen (v/128)
        · have := h3 hq
          obtain ⟨k, hk⟩ : ∃ k, varintLen (v/128) = k + 1 := ⟨_, (Nat.sub_add_cancel h1).symm⟩
          rw [hk] at this ⊢
          simp at this
          rw [pow_succ]; omega
        · have : varintLen (v/128) = 1 := by omega
          rw [this]; simpa using h'

theorem varintEncode_length (v : Nat) : (varintEncode v).length = varintLen v :=
  varintGroups_length _ _

theorem byte_toNat {n : Nat} (h : n < 256) : (BitVec.ofNat 8 n).toNat = n := by
  simp; omega

/-- R102's loop on the groups below `k`, begun with the groups above them. -/
theorem varintDecodeFrom_groups (max v : Nat) (rest : Bytes) (hv : v ≤ max) (k : Nat) :
    varintDecodeFrom max (128 * (v / 128 ^ (k+1))) (varintGroups v (k+1) ++ rest) = .ok v rest := by
  induction k with
  | zero =>
    simp only [varintGroups, List.cons_append, varintDecodeFrom]
    have := varintGroup_div v 0
    have := varintGroup_toNat v 0
    simp at *
    rw [if_pos (by omega)]
    congr 1; omega
  | succ k ih =>
    rw [varintGroups, List.cons_append, varintDecodeFrom]
    have hlt : v / 128 ^ (k+1) % 128 < 128 := Nat.mod_lt _ (by norm_num)
    rw [byte_toNat (by simp; omega)]
    simp only [Nat.succ_ne_zero, if_false]
    have e2 := varintGroup_div v (k+1)
    have e3 : v / 128^(k+1) ≤ max / 128 := by
      calc v / 128^(k+1) ≤ v / 128 := by
            apply Nat.div_le_div_left _ (by norm_num)
            calc 128 = 128^1 := by norm_num
              _ ≤ 128^(k+1) := Nat.pow_le_pow_right (by norm_num) (by omega)
        _ ≤ max / 128 := Nat.div_le_div_right hv
    rw [if_neg (by omega), if_neg (by omega)]
    have : (128 * (v / 128 ^ (k + 1 + 1)) + (v / 128 ^ (k + 1) % 128 + 128 - 128)) * 128 = 128 * (v / 128 ^ (k+1)) := by omega
    rw [this, ih]

/-- R102's loop on too few of the groups below `k` ends with `EOD`. -/
theorem varintDecodeFrom_groups_short (max v : Nat) (hv : v ≤ max) (k n : Nat) (hn : n < k + 1) :
    varintDecodeFrom max (128 * (v / 128 ^ (k+1))) ((varintGroups v (k+1)).take n) = .eod := by
  induction k generalizing n with
  | zero => have : n = 0 := by omega
            subst this; rfl
  | succ k ih =>
    cases n with
    | zero => rfl
    | succ n =>
    rw [varintGroups, List.take_succ_cons, varintDecodeFrom]
    have hlt : v / 128 ^ (k+1) % 128 < 128 := Nat.mod_lt _ (by norm_num)
    rw [byte_toNat (by simp; omega)]
    simp only [Nat.succ_ne_zero, if_false]
    have e2 := varintGroup_div v (k+1)
    have e3 : v / 128^(k+1) ≤ max / 128 := by
      calc v / 128^(k+1) ≤ v / 128 := by
            apply Nat.div_le_div_left _ (by norm_num)
            calc 128 = 128^1 := by norm_num
              _ ≤ 128^(k+1) := Nat.pow_le_pow_right (by norm_num) (by omega)
        _ ≤ max / 128 := Nat.div_le_div_right hv
    rw [if_neg (by omega), if_neg (by omega)]
    have : (128 * (v / 128 ^ (k + 1 + 1)) + (v / 128 ^ (k + 1) % 128 + 128 - 128)) * 128 = 128 * (v / 128 ^ (k+1)) := by omega
    rw [this, ih _ (by omega)]

/-- Seven bits a byte: what the groups of a value add to a value read before them. -/
theorem varintGroups_fold (v k : Nat) : ∀ r, (varintGroups v k).foldl (fun r b => r * 128 + b.toNat % 128) r = r * 128 ^ k + v % 128 ^ k := by
  induction k with
  | zero => intro r; simp [varintGroups, Nat.mod_one]
  | succ k ih =>
    intro r
    have hlt : v / 128 ^ k % 128 < 128 := Nat.mod_lt _ (by norm_num)
    rw [varintGroups, List.foldl_cons, byte_toNat (by split <;> omega), ih]
    have : (v / 128 ^ k % 128 + if k = 0 then 0 else 128) % 128 = v / 128 ^ k % 128 := by split <;> omega
    rw [this, pow_succ, Nat.mod_mul]; ring

/-- R71: bit 7 is set on every byte but the last. -/
theorem varintGroups_get (v k i : Nat) (b : Byte) (h : (varintGroups v k)[i]? = some b) : (128 ≤ b.toNat ↔ i + 1 < k) := by
  induction k generalizing i with
  | zero => simp [varintGroups] at h
  | succ k ih =>
    cases i with
    | zero =>
      simp [varintGroups] at h; subst h
      have hlt : v / 128 ^ k % 128 < 128 := Nat.mod_lt _ (by norm_num)
      rw [byte_toNat (by split <;> omega)]
      split <;> omega
    | succ i =>
      simp [varintGroups] at h
      rw [ih _ h]; omega

/-- R102's loop reads a value within its bound from a nonempty beginning of its bytes. -/
theorem varintDecodeFrom_ok (max : Nat) (hmax : max % 128 = 127) : ∀ (bs : Bytes) (r v : Nat) (rest : Bytes), r ≤ max → r % 128 = 0 → varintDecodeFrom max r bs = .ok v rest →
    v ≤ max ∧ ∃ used, bs = used ++ rest ∧ used ≠ [] ∧ (used.foldl (fun r b => r * 128 + b.toNat % 128) (r/128)) = v := by
  intro bs
  induction bs with
  | nil => intro r v rest _ _ h; simp [varintDecodeFrom] at h
  | cons b bs ih =>
    intro r v rest hr h0 h
    rw [varintDecodeFrom] at h
    have hb : b.toNat < 256 := b.isLt
    split at h
    · cases h
      refine ⟨by omega, [b], by simp, by simp, ?_⟩
      simp; omega
    · split at h
      · cases h
      · obtain ⟨h1, used, h2, h3, h4⟩ := ih _ _ _ (by omega) (by omega) h
        refine ⟨h1, b :: used, by simp [h2], by simp, ?_⟩
        simp only [List.foldl_cons]
        rw [← h4]; congr 1; omega

/-- R102's loop gives the same answer however many bytes follow. -/
theorem varintDecodeFrom_more (max : Nat) : ∀ (bs more : Bytes) (r : Nat), (varintDecodeFrom max r bs = .overflow → varintDecodeFrom max r (bs ++ more) = .overflow) ∧ ∀ v rest, varintDecodeFrom max r bs = .ok v rest → varintDecodeFrom max r (bs ++ more) = .ok v (rest ++ more) := by
  intro bs more
  induction bs with
  | nil => intro r; simp [varintDecodeFrom]
  | cons b bs ih =>
    intro r
    simp only [List.cons_append, varintDecodeFrom]
    split
    · simp
    · split
      · simp
      · exact ih _

theorem varintDecodeFrom_shorter (max : Nat) : ∀ (bs : Bytes) (r v : Nat) (rest : Bytes),
    varintDecodeFrom max r bs = .ok v rest → rest.length ≤ bs.length := by
  intro bs
  induction bs with
  | nil => intro r v rest h; simp [varintDecodeFrom] at h
  | cons b bs ih =>
    intro r v rest h
    simp only [varintDecodeFrom] at h
    split at h
    · cases h; simp
    · split at h
      · cases h
      · have := ih _ _ _ h; simp; omega

end Sys2Proof

namespace Sys2Proof.Machine

/-! ### The address cache (spec/41_address_cache.md R113) -/

/-- R113's comparison from slot `i` on: the result is the best so far or a near slot, its value is the smallest, and its mode the smallest of that value. -/
theorem nearBest_spec (a : Nat) (all : List Nat) : ∀ (ns : List Nat) (i : Nat) (best : Nat × Nat),
   (∀ j, ns[j]? = all[i + j]?) →
   (best.1 = 0 ∨ best.1 = 1 ∨ ∃ j n, j < i ∧ all[j]? = some n ∧ n ≤ a ∧ best = (2 + j, a - n)) → best.1 < 2 + i →
   (∀ j n, j < i → all[j]? = some n → n ≤ a → best.2 < a - n ∨ (best.2 = a - n ∧ best.1 ≤ 2 + j)) →
   let r := nearBest a ns i best
   (r = best ∨ ∃ j n, all[j]? = some n ∧ n ≤ a ∧ r = (2 + j, a - n)) ∧ (r.2 < best.2 ∨ r = best) ∧
   (∀ j n, all[j]? = some n → n ≤ a → r.2 < a - n ∨ (r.2 = a - n ∧ r.1 ≤ 2 + j)) := by
  intro ns
  induction ns with
  | nil =>
    intro i best hall hb hlt hmin
    refine ⟨.inl rfl, .inr rfl, ?_⟩
    intro j n hj hn
    by_cases h : j < i
    · exact hmin j n h hj hn
    · have := hall (j - i)
      rw [show i + (j - i) = j by omega, hj] at this
      simp at this
  | cons m ns ih =>
    intro i best hall hb hlt hmin
    have hm : all[i]? = some m := by have := hall 0; simpa using this.symm
    have hall' : ∀ j, ns[j]? = all[i + 1 + j]? := by
      intro j; have := hall (j+1); simp at this; rw [this]; congr 1; omega
    simp only [nearBest]
    by_cases hc : m ≤ a ∧ a - m < best.2
    · rw [if_pos hc]
      obtain ⟨h1, h2, h3⟩ := ih (i+1) (2 + i, a - m) hall' (.inr (.inr ⟨i, m, by omega, hm, hc.1, rfl⟩)) (by simp) (by
        intro j n hj hjn hna
        by_cases hji : j = i
        · subst hji; rw [hm] at hjn; cases hjn; right; simp
        · rcases hmin j n (by omega) hjn hna with h | h
          · left; simp; omega
          · left; simp; omega)
      refine ⟨.inr ?_, ?_, h3⟩
      · rcases h1 with h1 | h1
        · exact ⟨i, m, hm, hc.1, h1⟩
        · exact h1
      · left
        rcases h2 with h2 | h2
        · simp at h2; omega
        · rw [h2]; exact hc.2
    · rw [if_neg hc]
      exact ih (i+1) best hall' (by
        rcases hb with h | h | ⟨j, n, h, h'⟩
        · exact .inl h
        · exact .inr (.inl h)
        · exact .inr (.inr ⟨j, n, by omega, h'⟩)) (by omega) (by
        intro j n hj hjn hna
        by_cases hji : j = i
        · subst hji; rw [hm] at hjn; cases hjn
          have : ¬ a - m < best.2 := fun h => hc ⟨hna, h⟩
          by_cases h : best.2 = a - m
          · right; exact ⟨h, by omega⟩
          · left; omega
        · exact hmin j n (by omega) hjn hna)

theorem acReset_same (cfg : Cfg) (k : Nat) : (acReset cfg).same.getD k 0 = 0 := by
  simp [acReset, AddrCache.reset, List.getElem?_replicate]; split <;> rfl

end Sys2Proof.Machine
end

