-- ==== Sys2Proof/Laws/EncodeKept.lean ====
section
/-! SUPPORT. What every operation of an encode session keeps: one lemma per operation, for every outcome it has. -/

namespace Sys2Proof.Machine

/-! ### The serializer -/

/-- The serializer's part of the session invariants. -/
def Serializer.sound (cfg : Cfg) (ws : Serializer) : Prop :=
  ws.cache.wf cfg ∧ (∀ i, ws.lastOpIdx = some i → i < ws.instBuf.len) ∧ ws.targetLen ≤ varintMax ∧ ws.dictLen ≤ varintMax

/-- The serializer's memories are in canonical form. -/
def Serializer.memoryWf (ws : Serializer) : Prop :=
  ws.dataBuf.wf = true ∧ ws.instBuf.wf = true ∧ ws.addrBuf.wf = true

/-- The invariants an operation of the serializer keeps. -/
structure Serializer.Kept (cfg : Cfg) (ws ws1 : Serializer) : Prop where
  memoryWf : ws.memoryWf → ws1.memoryWf
  sound    : ws.sound cfg → ws1.sound cfg

theorem Serializer.Kept.refl (cfg : Cfg) (ws : Serializer) : Serializer.Kept cfg ws ws := ⟨id, id⟩

/-- `IM_ENCODE` fuses, appends an opcode with the size inline, appends an opcode with its explicit size, or is refused. -/
theorem imEncode_cases (map : InstrMap) (ws : Serializer) (t : Triple) :
    (∃ i prev c, ws.lastOpIdx = some i ∧ ws.instBuf.read i = some prev ∧ mapLookup (prev, t) map.second = some c ∧
      1 ≤ t.size ∧ t.size ≤ 255 ∧
      imEncode map ws t = .ok { ws with instBuf := ws.instBuf.write i c, lastOpIdx := none } ()) ∨
    (∃ op, mapLookup t map.first = some op ∧ 1 ≤ t.size ∧ t.size ≤ 255 ∧ imEncode map ws t = .ok (ws.emit op []) ()) ∨
    (∃ op, mapLookup ⟨t.inst, 0, t.mode⟩ map.first = some op ∧ 1 ≤ t.size ∧ t.size ≤ varintMax ∧
      imEncode map ws t = .ok (ws.emit op (varintEncode t.size)) ()) ∨
    ((t.size = 0 ∨ varintMax < t.size) ∧ imEncode map ws t = .err ws .encRange) ∨
    (1 ≤ t.size ∧ t.size ≤ varintMax ∧ mapLookup ⟨t.inst, 0, t.mode⟩ map.first = none ∧
      imEncode map ws t = .err ws .encNoOpcode) := by
  by_cases hs : t.size = 0 ∨ varintMax < t.size
  · exact .inr (.inr (.inr (.inl ⟨hs, by simp [imEncode, hs]⟩)))
  have h1 : 1 ≤ t.size := by omega
  have h2 : t.size ≤ varintMax := by omega
  cases hf : ws.fusion map t with
  | some p =>
    obtain ⟨i, c⟩ := p
    have he : imEncode map ws t = .ok { ws with instBuf := ws.instBuf.write i c, lastOpIdx := none } () := by
      simp [imEncode, hs, hf]
    unfold Serializer.fusion at hf
    split at hf
    · cases hf
    · rename_i j hl
      split at hf
      · rename_i h255
        split at hf
        · cases hf
        · rename_i prev hr
          simp only [Option.map_eq_some_iff, Prod.mk.injEq] at hf
          obtain ⟨c', hc, rfl, rfl⟩ := hf
          exact .inl ⟨_, prev, _, hl, hr, hc, h1, h255, he⟩
      · cases hf
  | none =>
    cases ho : map.inlineOpcode t with
    | some op =>
      have he : imEncode map ws t = .ok (ws.emit op []) () := by simp [imEncode, hs, hf, ho]
      unfold InstrMap.inlineOpcode at ho
      split at ho
      · exact .inr (.inl ⟨op, ho, h1, ‹_›, he⟩)
      · cases ho
    | none =>
      cases hl : mapLookup ⟨t.inst, 0, t.mode⟩ map.first with
      | some op => exact .inr (.inr (.inl ⟨op, rfl, h1, h2, by simp [imEncode, hs, hf, ho, hl]⟩))
      | none => exact .inr (.inr (.inr (.inr ⟨h1, h2, rfl, by simp [imEncode, hs, hf, ho, hl]⟩)))

theorem imEncode_kept (cfg : Cfg) (map : InstrMap) (ws : Serializer) (t : Triple) :
    (imEncode map ws t).leaves (Serializer.Kept cfg ws) := by
  have emit : ∀ op bs, Serializer.Kept cfg ws (ws.emit op bs) := fun op bs =>
    ⟨fun ⟨m1, m2, m3⟩ => ⟨m1, Memory.wf_append m2 _, m3⟩, fun ⟨s1, _, s3, s4⟩ =>
      ⟨s1, fun i hi => by
        simp only [Serializer.emit, Option.some.injEq] at hi
        simp only [Serializer.emit, Memory.append_len, List.length_cons]
        omega, s3, s4⟩⟩
  rcases imEncode_cases map ws t with ⟨i, prev, c, _, _, _, _, _, h⟩ | ⟨op, _, _, _, h⟩ | ⟨op, _, _, _, h⟩ | ⟨_, h⟩ |
    ⟨_, _, _, h⟩ <;> rw [h]
  · refine ⟨fun ⟨m1, m2, m3⟩ => ⟨m1, Memory.wf_write m2 _ _, m3⟩, fun ⟨s1, _, s3, s4⟩ => ⟨s1, ?_, s3, s4⟩⟩
    intro i hi
    cases hi
  · exact emit _ _
  · exact emit _ _
  · exact Serializer.Kept.refl cfg ws
  · exact Serializer.Kept.refl cfg ws

theorem Serializer.appendLiteral_kept (cfg : Cfg) (b : Bool) (ws : Serializer) (bs : Bytes) (n : Nat) (hn : n ≤ varintMax) :
    Serializer.Kept cfg ws { ws.appendLiteral b bs with targetLen := n } := by
  unfold Serializer.appendLiteral
  cases b
  · exact ⟨fun ⟨m1, m2, m3⟩ => ⟨Memory.wf_append m1 _, m2, m3⟩, fun ⟨s1, s2, _, s4⟩ => ⟨s1, s2, hn, s4⟩⟩
  · refine ⟨fun ⟨m1, m2, m3⟩ => ⟨m1, Memory.wf_append m2 _, m3⟩, fun ⟨s1, s2, _, s4⟩ => ⟨s1, fun i hi => ?_, hn, s4⟩⟩
    have := s2 i hi
    simp only [if_true, Memory.append_len]; omega

theorem Serializer.appendAddress_kept (cfg : Cfg) (b : Bool) (ws : Serializer) (bs : Bytes) (n : Nat) (hn : n ≤ varintMax) :
    Serializer.Kept cfg ws { ws.appendAddress b bs with targetLen := n } := by
  unfold Serializer.appendAddress
  cases b
  · exact ⟨fun ⟨m1, m2, m3⟩ => ⟨m1, m2, Memory.wf_append m3 _⟩, fun ⟨s1, s2, _, s4⟩ => ⟨s1, s2, hn, s4⟩⟩
  · refine ⟨fun ⟨m1, m2, m3⟩ => ⟨m1, Memory.wf_append m2 _, m3⟩, fun ⟨s1, s2, _, s4⟩ => ⟨s1, fun i hi => ?_, hn, s4⟩⟩
    have := s2 i hi
    simp only [if_true, Memory.append_len]; omega

theorem Serializer.Kept.trans {cfg : Cfg} {ws ws1 ws2 : Serializer} (h : Serializer.Kept cfg ws ws1)
    (h2 : Serializer.Kept cfg ws1 ws2) : Serializer.Kept cfg ws ws2 :=
  ⟨h2.memoryWf ∘ h.memoryWf, h2.sound ∘ h.sound⟩

theorem wsAdd_kept (cfg : Cfg) (map : InstrMap) (ws : Serializer) (bs : Bytes) :
    (wsAdd cfg map ws bs).leaves (Serializer.Kept cfg ws) := by
  unfold wsAdd
  split
  · exact Serializer.Kept.refl cfg ws
  · exact Act.leaves_bind (imEncode_kept cfg map ws _) fun _ _ _ h =>
      h.trans (Serializer.appendLiteral_kept cfg _ _ _ _ (by omega))

theorem wsRun_kept (cfg : Cfg) (map : InstrMap) (ws : Serializer) (size : Nat) (byte : Byte) :
    (wsRun cfg map ws size byte).leaves (Serializer.Kept cfg ws) := by
  unfold wsRun
  split
  · exact Serializer.Kept.refl cfg ws
  · exact Act.leaves_bind (imEncode_kept cfg map ws _) fun _ _ _ h =>
      h.trans (Serializer.appendLiteral_kept cfg _ _ _ _ (by omega))

theorem wsCopy_kept (cfg : Cfg) (map : InstrMap) (ws : Serializer) (offset size : Nat) :
    (wsCopy cfg map ws offset size).leaves (Serializer.Kept cfg ws) := by
  unfold wsCopy
  split
  · exact Serializer.Kept.refl cfg ws
  · split
    · exact Serializer.Kept.refl cfg ws
    · rename_i f cache he
      have hc : Serializer.Kept cfg ws { ws with cache := cache } :=
        ⟨id, fun ⟨s1, s2, s3, s4⟩ => ⟨AddrCache.wf_encode s1 he, s2, s3, s4⟩⟩
      refine Act.leaves_bind (Act.leaves_imp (imEncode_kept cfg map _ _) fun _ h => hc.trans h) fun ws1 _ _ h => ?_
      split
      · exact h
      · exact h.trans (Serializer.appendAddress_kept cfg _ _ _ _ (by omega))

theorem Serializer.windowReset_kept (cfg : Cfg) (ws : Serializer) : Serializer.Kept cfg ws (ws.windowReset cfg) := by
  refine ⟨fun _ => ⟨rfl, rfl, rfl⟩, fun ⟨s1, _, _, s4⟩ =>
    ⟨AddrCache.wf_reset (Nat.zero_lt_of_lt s1.2.2), ?_, Nat.zero_le _, s4⟩⟩
  intro i hi
  cases hi

theorem wsInit_kept (cfg : Cfg) (ws : Serializer) (dictLen : Nat) : (wsInit cfg ws dictLen).leaves (Serializer.Kept cfg ws) := by
  unfold wsInit
  split
  · exact Serializer.Kept.refl cfg ws
  · have h := Serializer.windowReset_kept cfg ws
    exact ⟨h.memoryWf, fun s => ⟨(h.sound s).1, (h.sound s).2.1, (h.sound s).2.2.1, Nat.not_lt.mp ‹_›⟩⟩

/-! ### The session -/

/-- The registers an operation of an encode session leaves as they were, that `DELTA_OUT` only grows, and the invariants it keeps. -/
structure Encoder.Kept (e e1 : Encoder) : Prop where
  cfg      : e1.cfg = e.cfg
  dict     : e1.dict = e.dict
  failed   : e1.failed = e.failed
  deltaOut : ∃ bs, e1.deltaOut = e.deltaOut.append bs
  memoryWf : e.memoryWf → e1.memoryWf
  sound    : e.sound → e1.sound

theorem Encoder.Kept.refl (e : Encoder) : e.Kept e := ⟨rfl, rfl, rfl, ⟨[], by simp⟩, id, id⟩

theorem Encoder.Kept.trans {e e1 e2 : Encoder} (h : e.Kept e1) (h2 : e1.Kept e2) : e.Kept e2 := by
  refine ⟨h2.cfg.trans h.cfg, h2.dict.trans h.dict, h2.failed.trans h.failed, ?_, h2.memoryWf ∘ h.memoryWf,
    h2.sound ∘ h.sound⟩
  obtain ⟨bs, hb⟩ := h.deltaOut
  obtain ⟨bs2, hb2⟩ := h2.deltaOut
  exact ⟨bs ++ bs2, by rw [hb2, hb, Memory.append_append]⟩

/-- A change of registers that the invariants do not speak of. -/
theorem Encoder.kept_of_ws {e e1 : Encoder} (hc : e1.cfg = e.cfg) (hd : e1.dict = e.dict) (hf : e1.failed = e.failed)
    (ho : e1.deltaOut = e.deltaOut) (ht : e.tgtIn.wf = true → e1.tgtIn.wf = true) (hw : Serializer.Kept e.cfg e.ws e1.ws) :
    e.Kept e1 := by
  refine ⟨hc, hd, hf, ⟨[], by simp [ho]⟩, ?_, ?_⟩
  · rintro ⟨m1, m2, m3, m4, m5, m6⟩
    obtain ⟨w1, w2, w3⟩ := hw.memoryWf ⟨m3, m4, m5⟩
    exact ⟨by rwa [hd], ht m2, w1, w2, w3, by rwa [ho]⟩
  · intro hs
    have := hw.sound hs
    unfold Encoder.sound
    rw [hc]
    exact this

theorem Encoder.liftWs_kept (e : Encoder) {x : Act Serializer Unit} (h : x.leaves (Serializer.Kept e.cfg e.ws)) :
    (e.liftWs x).leaves e.Kept := by
  cases x <;> first | exact Encoder.kept_of_ws rfl rfl rfl rfl id h | trivial

theorem Encoder.add_kept (e : Encoder) (bs : Bytes) : (e.add bs).leaves e.Kept :=
  e.liftWs_kept (wsAdd_kept _ _ _ _)

theorem Encoder.copy_kept (e : Encoder) (offset size : Nat) : (e.copy offset size).leaves e.Kept :=
  e.liftWs_kept (wsCopy_kept _ _ _ _ _)

theorem Encoder.flushLiterals_kept (e : Encoder) (upto : Nat) : (e.flushLiterals upto).leaves e.Kept := by
  unfold Encoder.flushLiterals
  split
  · exact e.add_kept _
  · exact Encoder.Kept.refl e

theorem Encoder.parser_kept (e : Encoder) (p : Parser) : e.Kept { e with parser := p } :=
  Encoder.kept_of_ws rfl rfl rfl rfl id (Serializer.Kept.refl _ _)

theorem Encoder.scan_kept (fuel : Nat) (e : Encoder) : (Encoder.scan fuel e).leaves e.Kept := by
  induction fuel generalizing e with
  | zero => trivial
  | succ fuel ih =>
    unfold Encoder.scan
    split
    · refine Act.leaves_bind (e.flushLiterals_kept _) fun e1 _ _ h1 => ?_
      refine Act.leaves_bind (Act.leaves_imp (e1.copy_kept _ _) fun _ h => h1.trans h) fun e2 _ _ h2 => ?_
      simp only
      split
      · exact h2.trans (e2.parser_kept _)
      · exact Act.leaves_imp (ih _) fun _ h => (h2.trans (e2.parser_kept _)).trans h
    · simp only
      split
      · exact Encoder.Kept.refl e
      · exact Act.leaves_imp (ih _) fun _ h => (e.parser_kept _).trans h

theorem cpParse_kept (e : Encoder) (chunk : Bytes) : (cpParse e chunk).leaves e.Kept := by
  have h0 : e.Kept { e with tgtIn := Memory.ofBytes chunk } :=
    Encoder.kept_of_ws rfl rfl rfl rfl (fun _ => by simp) (Serializer.Kept.refl _ _)
  have h1 : (Encoder.scanChunk { e with tgtIn := Memory.ofBytes chunk }).leaves e.Kept := by
    unfold Encoder.scanChunk
    simp only
    split
    · exact h0.trans (Encoder.parser_kept _ _)
    · exact Act.leaves_imp (Encoder.scan_kept _ _) fun _ h => (h0.trans (Encoder.parser_kept _ _)).trans h
  exact Act.leaves_bind h1 fun e1 _ _ h => Act.leaves_imp (e1.flushLiterals_kept _) fun _ h2 => h.trans h2

theorem Encoder.append_kept (e : Encoder) (bs : Bytes) (ws : Serializer) (hw : Serializer.Kept e.cfg e.ws ws) :
    e.Kept { e with deltaOut := e.deltaOut.append bs, ws := ws } := by
  refine ⟨rfl, rfl, rfl, ⟨bs, rfl⟩, ?_, hw.sound⟩
  rintro ⟨m1, m2, m3, m4, m5, m6⟩
  obtain ⟨w1, w2, w3⟩ := hw.memoryWf ⟨m3, m4, m5⟩
  exact ⟨m1, m2, w1, w2, w3, Memory.wf_append m6 _⟩

theorem wsOutput_kept (e : Encoder) (checksum : Option Nat) : (wsOutput e checksum).leaves e.Kept := by
  unfold wsOutput
  simp only
  split; · exact Encoder.Kept.refl e
  split; · exact Encoder.Kept.refl e
  split; · exact Encoder.Kept.refl e
  split; · exact Encoder.Kept.refl e
  split; · exact Encoder.Kept.refl e
  exact e.append_kept _ _ (Serializer.windowReset_kept _ _)

theorem Encoder.writeHeader_kept (e : Encoder) : e.Kept e.writeHeader :=
  ⟨rfl, rfl, rfl, ⟨_, rfl⟩, fun ⟨m1, m2, m3, m4, m5, m6⟩ => ⟨m1, m2, m3, m4, m5, Memory.wf_append m6 _⟩, id⟩

theorem wsStreamHeader_kept (e : Encoder) : (wsStreamHeader e).leaves e.Kept :=
  Act.leaves_requires (Encoder.Kept.refl e) e.writeHeader_kept

theorem encodeChunks_kept (fuel : Nat) (e : Encoder) (target : Bytes) : (encodeChunks fuel e target).leaves e.Kept := by
  induction fuel generalizing e target with
  | zero => cases target <;> first | exact Encoder.Kept.refl e | trivial
  | succ fuel ih =>
    cases target with
    | nil => exact Encoder.Kept.refl e
    | cons b bs =>
      unfold encodeChunks
      refine Act.leaves_bind (cpParse_kept e _) fun e1 _ _ h1 => ?_
      refine Act.leaves_bind (Act.leaves_imp (wsOutput_kept e1 _) fun _ h => h1.trans h) fun e2 _ _ h2 => ?_
      exact Act.leaves_imp (ih e2 _) fun _ h => h2.trans h

theorem Encoder.drawn_kept (e : Encoder) (frees : Nat) : e.Kept { e with frees := frees } :=
  Encoder.kept_of_ws rfl rfl rfl rfl id (Serializer.Kept.refl _ _)

theorem Encoder.initHash_kept (e : Encoder) : e.Kept e.initHash :=
  Encoder.kept_of_ws rfl rfl rfl rfl id (Serializer.Kept.refl _ _)

theorem Encoder.buildMap_kept (e : Encoder) : e.Kept e.buildMap :=
  Encoder.kept_of_ws rfl rfl rfl rfl id (Serializer.Kept.refl _ _)

theorem Encoder.buildIndex_kept (e : Encoder) : e.buildIndex.leaves e.Kept := by
  unfold Encoder.buildIndex
  split <;> exact Encoder.kept_of_ws rfl rfl rfl rfl id (Serializer.Kept.refl _ _)

theorem encodeStream_kept (e : Encoder) (target : Bytes) : (encodeStream e target).leaves e.Kept := by
  unfold encodeStream
  split
  · exact Encoder.Kept.refl e
  · refine Act.leaves_bind (Act.leaves_imp e.initHash.buildIndex_kept fun _ h => e.initHash_kept.trans h) fun e1 _ _ h1 => ?_
    refine Act.leaves_bind (Act.leaves_imp (e1.buildMap.liftWs_kept (wsInit_kept _ _ _)) fun _ h =>
      (h1.trans e1.buildMap_kept).trans h) fun e2 _ _ h2 => ?_
    refine Act.leaves_bind (Act.leaves_imp (wsStreamHeader_kept e2) fun _ h => h2.trans h) fun e3 _ _ h3 => ?_
    exact Act.leaves_imp (encodeChunks_kept _ _ _) fun _ h => h3.trans h

end Sys2Proof.Machine
end

