-- ==== Sys2Proof/Laws/Exec.lean ====
section
/-! SUPPORT. Every instruction's meaning is the shared meaning of single or of compound instructions at its triples. -/

namespace Sys2Proof.Machine

theorem exec_single {i : Instr} (h : i.second = none) (s : State) : exec i s = s.runSingle i.first := by
  cases i <;> first | rfl | cases h

theorem exec_pair {i : Instr} {u : Triple} (h : i.second = some u) (s : State) :
    exec i s = s.runPair (BitVec.ofNat 8 i.opcode) i.first u := by
  cases i <;> first | (cases h; done) | (cases h; rfl)

end Sys2Proof.Machine

namespace Sys2Proof

/-- A single instruction is an `ADD`, a `RUN` or a `COPY`; a compound one is `ADD` then `COPY`, or `COPY` then `ADD`, with inline sizes. -/
theorem Instr.first_cases (i : Instr) :
    i.first.inst = .add ∧ i.first.mode = 0 ∨ i.first.inst = .run ∧ i.first.mode = 0 ∨ i.first.inst = .copy ∧ i.first.mode < 9 := by
  cases i <;> simp [Instr.first]

theorem Instr.second_cases {i : Instr} {u : Triple} (h : i.second = some u) :
    (i.first.inst = .add ∧ u.inst = .copy ∨ i.first.inst = .copy ∧ u.inst = .add) ∧ 1 ≤ i.first.size ∧ 1 ≤ u.size := by
  cases i <;> first | (cases h; done) | (cases h; simp [Instr.first])

end Sys2Proof
end

