-- ==== Sys2Proof/Laws/Machine.lean ====
section
/-! SUPPORT. What one step of the machine can do: a piece of the decode operation in progress, one operation of the host, or nothing; and what each leaves of the two sessions. -/

namespace Sys2Proof.Machine

/-! ### The three kinds of step -/

/-- A step is idle, executes the oldest operation of the host, or goes on with the decode operation in progress. -/
theorem step_cases {s t : State} (h : step s = .next t) :
    (s.dec.call = none ∧ s.ops = [] ∧ t = s) ∨
    (∃ o rest, s.dec.call = none ∧ s.ops = o :: rest ∧ State.perform { s with ops := rest } o = .next t) ∨
    (∃ c, s.dec.call = some c ∧ s.advance c = .next t) := by
  unfold step State.stepOnce at h
  cases hc : s.dec.call with
  | some c => exact .inr (.inr ⟨c, rfl, by simpa [hc] using h⟩)
  | none =>
    cases ho : s.ops with
    | nil => exact .inl ⟨rfl, rfl, by simpa [hc, ho, eq_comm] using h⟩
    | cons o rest => exact .inr (.inl ⟨o, rest, rfl, rfl, by simpa [hc, ho] using h⟩)

/-- A machine with no decode operation in progress executes the host's oldest operation. -/
theorem step_op {s : State} {o : HostOp} {rest : List HostOp} (hc : s.dec.call = none) (ho : s.ops = o :: rest) :
    step s = State.perform { s with ops := rest } o := by
  simp [step, State.stepOnce, hc, ho]

/-- A `BD_RUN` or `BD_STEP` in progress goes on with the body. -/
theorem step_body {s : State} (hc : s.dec.call = some .bdRun ∨ s.dec.call = some .bdStep) : step s = s.bodyPass := by
  rcases hc with h | h <;> simp [step, State.stepOnce, h, State.advance]

/-- A failed session answers at once (R257). -/
theorem State.perform_failed {s : State} {o : HostOp} {c : Cause} (h : s.failedOf o.side = some c) (hc : o.creates = false) :
    s.perform o = .next { s with last := some (o.failedReply c) } := by
  simp [State.perform, h, hc]

/-- A session that has not failed executes the operation. -/
theorem State.perform_running {s : State} {o : HostOp} (h : s.failedOf o.side = none) : s.perform o = s.runOp o := by
  simp [State.perform, h]

/-- The creation of a session is always executed (R259). -/
theorem State.perform_creates {s : State} {o : HostOp} (h : o.creates = true) : s.perform o = s.runOp o := by
  unfold State.perform
  split
  · rename_i hc; rw [h] at hc; cases hc
  · rfl

/-! ### What a step leaves -/

/-- A step that touches the decode session only and completes no window: its registers but the latch and the operation in progress are those of a session its operations keep; the latch keeps its cause; an error is reported only with a cause held. -/
structure State.DecodeMoved (s t : State) : Prop where
  enc  : t.enc = s.enc
  ops  : t.ops = s.ops
  dec  : ∃ d failed call, s.dec.Kept d ∧ t.dec = { d with failed := failed, call := call } ∧
    (failed = s.dec.failed ∨ ∃ c, failed = some (s.dec.failed.getD c))
  last : ∀ r, t.last = some r → r.isError = true → s.last = some r ∨ ∃ c, t.dec.failed = some c

/-- A step that touches the encode session only. -/
structure State.EncodeMoved (s t : State) : Prop where
  dec  : t.dec = s.dec
  ops  : t.ops = s.ops
  enc  : ∃ e failed, s.enc.Kept e ∧ t.enc = { e with failed := failed } ∧
    (failed = s.enc.failed ∨ ∃ c, failed = some (s.enc.failed.getD c))
  last : ∀ r, t.last = some r → r.isError = true → s.last = some r ∨ ∃ c, t.enc.failed = some c

/-- The step that completes a window: every check of R233 has passed, and the window is committed. -/
structure State.Committed (s t : State) : Prop where
  enc     : t.enc = s.enc
  ops     : t.ops = s.ops
  started : s.dec.stage = .started
  full    : s.dec.outputFull = true
  excess  : s.dec.hasExcess = false
  checked : s.dec.checksumOk = true
  dec     : ∃ call phase, t.dec = { s.dec with
    tgtOut := s.dec.tgtOut.append s.dec.decoded.bytes
    written := s.dec.written + s.dec.decoded.len
    decoded := [], stage := .closed, call := call, phase := phase }
  last    : t.last = s.last ∨ t.last = some (.ok .unit)

theorem State.DecodeMoved.of_kept {s t : State} {d : Decoder} {call : Option Call} (h : s.dec.Kept d) (he : t.enc = s.enc)
    (ho : t.ops = s.ops) (hd : t.dec = { d with call := call })
    (hl : ∀ r, t.last = some r → r.isError = true → s.last = some r ∨ ∃ c, t.dec.failed = some c) : s.DecodeMoved t :=
  ⟨he, ho, ⟨d, d.failed, call, h, hd, .inl h.failed⟩, hl⟩

theorem State.DecodeMoved.raised {s : State} {d : Decoder} (h : s.dec.Kept d) (c : Cause) :
    s.DecodeMoved (State.raiseDecode { s with dec := d } c) :=
  ⟨rfl, rfl, ⟨d, some (d.failed.getD c), none, h, rfl, .inr ⟨c, by rw [h.failed]⟩⟩, fun _ _ _ => .inr ⟨_, rfl⟩⟩

theorem State.EncodeMoved.raised {s : State} {e : Encoder} (h : s.enc.Kept e) (c : Cause) :
    s.EncodeMoved (State.raiseEncode { s with enc := e } c) :=
  ⟨rfl, rfl, ⟨e, some (e.failed.getD c), h, rfl, .inr ⟨c, by rw [h.failed]⟩⟩, fun _ _ _ => .inr ⟨_, rfl⟩⟩

theorem State.settle_moved {s t : State} {x : Act Decoder Unit} (hx : x.leaves s.dec.Kept) (h : s.settle x = .next t) :
    s.DecodeMoved t := by
  rcases State.settle_next.mp h with ⟨d, e, rfl⟩ | ⟨d, e, rfl⟩ | ⟨d, c, e, rfl⟩ <;> rw [e] at hx
  · exact .of_kept (call := d.call) hx rfl rfl rfl fun r h _ => .inl h
  · refine .of_kept (call := none) hx rfl rfl rfl fun r hr he => ?_
    simp only [State.suspend, Option.some.injEq] at hr
    subst hr
    split at he <;> cases he
  · exact State.DecodeMoved.raised hx c

theorem State.settleDecode_moved {s t : State} {x : Act Decoder Value} (hx : x.leaves s.dec.Kept)
    (h : s.settleDecode x = .next t) : s.DecodeMoved t := by
  rcases State.settleDecode_next.mp h with ⟨d, v, e, rfl⟩ | ⟨d, e, rfl⟩ | ⟨d, c, e, rfl⟩ <;> rw [e] at hx
  · exact .of_kept (call := d.call) hx rfl rfl rfl fun r h he => by cases h; cases he
  · exact .of_kept (call := d.call) hx rfl rfl rfl fun r h he => by cases h; cases he
  · exact State.DecodeMoved.raised hx c

theorem State.settleEncode_moved {s t : State} {x : Act Encoder Value} (hx : x.leaves s.enc.Kept)
    (h : s.settleEncode x = .next t) : s.EncodeMoved t := by
  rcases State.settleEncode_next.mp h with ⟨e, v, k, rfl⟩ | ⟨e, k, rfl⟩ | ⟨e, c, k, rfl⟩ <;> rw [k] at hx
  · exact ⟨rfl, rfl, ⟨e, e.failed, hx, rfl, .inl hx.failed⟩, fun r h he => by cases h; cases he⟩
  · exact ⟨rfl, rfl, ⟨e, e.failed, hx, rfl, .inl hx.failed⟩, fun r h he => by cases h; cases he⟩
  · exact State.EncodeMoved.raised hx c

/-! ### A piece of a decode operation -/

theorem State.inBody_moved {s t : State} {k : Decoder → Act Decoder Unit} (hk : (k s.dec).leaves s.dec.Kept)
    (h : s.inBody k = .next t) : s.DecodeMoved t := by
  unfold State.inBody at h
  split at h
  · cases h
    exact .of_kept (call := s.dec.call) (Decoder.Kept.refl _) rfl rfl rfl fun _ h _ => .inl h
  · exact State.settle_moved (Act.leaves_requires (Decoder.Kept.refl _) hk) h

/-- Everything an instruction can do, whether it completes, waits or raises an error. -/
theorem exec_moved {i : Instr} {s t : State} (h : exec i s = .next t) : s.DecodeMoved t := by
  cases hs : i.second with
  | none => rw [exec_single hs] at h; exact State.inBody_moved (Decoder.issue_kept _ _) h
  | some u => rw [exec_pair hs] at h; exact State.inBody_moved (Decoder.issuePair_kept _ _ _ _) h

theorem Decoder.advanceTo_kept (d : Decoder) (rest : Bytes) : d.Kept (d.advanceTo rest) :=
  ⟨rfl, rfl, rfl, rfl, rfl, id, id⟩

theorem State.DecodeMoved.after {s t : State} {d : Decoder} (h : s.dec.Kept d) (hm : State.DecodeMoved { s with dec := d } t) :
    s.DecodeMoved t := by
  obtain ⟨d1, failed, call, k, hd, hf⟩ := hm.dec
  exact ⟨hm.enc, hm.ops, ⟨d1, failed, call, h.trans k, hd, by rw [← h.failed]; exact hf⟩, hm.last⟩

theorem State.instructionPass_moved {s t : State} (hs : s.dec.stage = .started) (h : s.instructionPass = .next t) :
    s.DecodeMoved t := by
  unfold State.instructionPass at h
  split at h
  · exact State.settle_moved (Decoder.retry_kept hs ‹_›) h
  · split at h
    · unfold State.fetchAndRun at h
      split at h
      · exact State.DecodeMoved.after (s.dec.advanceTo_kept _) (exec_moved h)
      · exact State.settle_moved s.dec.starved_kept h
      · exact State.settle_moved (x := .err s.dec.overflowed .varintOverflow) ⟨rfl, rfl, rfl, rfl, rfl, id, id⟩ h
      · cases h
    · exact State.settle_moved s.dec.nextPass_kept h

/-- `Complete` refuses leftover bytes, then a wrong checksum, with nothing changed; otherwise it commits (R233). -/
theorem Decoder.complete_cases (d : Decoder) :
    (d.hasExcess = true ∧ d.complete = .err d .excessData) ∨
    (d.hasExcess = false ∧ d.checksumOk = false ∧ d.complete = .err d .checksumMismatch) ∨
    (d.hasExcess = false ∧ d.checksumOk = true ∧ d.complete = .ok { d with
      tgtOut := d.tgtOut.append d.decoded.bytes, written := d.written + d.decoded.len, decoded := [], stage := .closed } ()) := by
  unfold Decoder.complete
  cases h1 : d.hasExcess <;> cases h2 : d.checksumOk <;> simp

theorem State.bodyPass_cases {s t : State} (h : s.bodyPass = .next t) : s.DecodeMoved t ∨ s.Committed t := by
  unfold State.bodyPass at h
  split at h
  · rename_i hs
    split at h
    · rename_i hf
      unfold State.completeWindow at h
      rcases s.dec.complete_cases with ⟨_, e⟩ | ⟨_, _, e⟩ | ⟨hx, hc, e⟩ <;> simp only [e] at h <;> cases h
      · exact .inl (State.DecodeMoved.raised (Decoder.Kept.refl _) _)
      · exact .inl (State.DecodeMoved.raised (Decoder.Kept.refl _) _)
      · refine .inr ?_
        unfold State.windowDone
        split
        · exact ⟨rfl, rfl, hs, hf, hx, hc, ⟨_, _, rfl⟩, .inl rfl⟩
        · exact ⟨rfl, rfl, hs, hf, hx, hc, ⟨_, _, rfl⟩, .inr rfl⟩
    · exact .inl (State.instructionPass_moved hs h)
  · cases h
    exact .inl (State.DecodeMoved.raised (Decoder.Kept.refl _) _)

/-- A piece of the decode operation in progress moves the decode session only, or commits a window. -/
theorem State.advance_cases {s t : State} {c : Call} (h : s.advance c = .next t) : s.DecodeMoved t ∨ s.Committed t := by
  unfold State.advance at h
  split at h
  · exact State.bodyPass_cases h
  · exact State.bodyPass_cases h
  · unfold State.callPass at h
    split at h
    · refine .inl (State.settle_moved ?_ h)
      exact Act.leaves_bind s.dec.sdHeader_kept fun d _ _ hk => hk.trans ⟨rfl, rfl, rfl, rfl, rfl, id, id⟩
    · split at h
      · cases h
        exact .inl (.of_kept (call := none) (Decoder.Kept.refl _) rfl rfl rfl fun r h he => by cases h; cases he)
      · exact .inl (State.settle_moved s.dec.openWindow_kept h)
    · exact State.bodyPass_cases h

/-! ### An operation of the host -/

theorem State.answer_encode {s t : State} {e : Encoder} {v : Value} (hk : s.enc.Kept e)
    (h : State.answer { s with enc := e } v = .next t) : s.EncodeMoved t := by
  cases h
  exact ⟨rfl, rfl, ⟨e, e.failed, hk, rfl, .inl hk.failed⟩, fun r h he => by cases h; cases he⟩

theorem State.answer_decode {s t : State} {d : Decoder} {v : Value} (hk : s.dec.Kept d)
    (h : State.answer { s with dec := d } v = .next t) : s.DecodeMoved t := by
  cases h
  exact .of_kept (call := d.call) hk rfl rfl rfl fun r h he => by cases h; cases he

theorem Act.unit_leaves {σ : Type} {x : Act σ Unit} {P : σ → Prop} (h : x.leaves P) : x.unit.leaves P :=
  Act.leaves_bind h fun _ _ _ h => h

theorem Encoder.setCache_kept (e : Encoder) {c : AddrCache} (h : e.ws.cache.wf e.cfg → c.wf e.cfg) :
    e.Kept { e with ws := { e.ws with cache := c } } :=
  Encoder.kept_of_ws rfl rfl rfl rfl id ⟨id, fun ⟨s1, s2, s3, s4⟩ => ⟨h s1, s2, s3, s4⟩⟩

theorem Decoder.setCache_kept (d : Decoder) {c : AddrCache} (h : d.cache.wf d.cfg → c.wf d.cfg) :
    d.Kept { d with cache := c } :=
  ⟨rfl, rfl, rfl, rfl, rfl, id, fun ⟨s1, s2, s3⟩ => ⟨h s1, s2, s3⟩⟩

theorem Decoder.drawn_kept (d : Decoder) (frees : Nat) : d.Kept { d with frees := frees } :=
  ⟨rfl, rfl, rfl, rfl, rfl, id, id⟩

theorem State.EncodeMoved.after {s t : State} {e : Encoder} (h : s.enc.Kept e) (hm : State.EncodeMoved { s with enc := e } t) :
    s.EncodeMoved t := by
  obtain ⟨e1, failed, k, he, hf⟩ := hm.enc
  exact ⟨hm.dec, hm.ops, ⟨e1, failed, h.trans k, he, by rw [← h.failed]; exact hf⟩, hm.last⟩

theorem State.afterOperand_encode (s : State) (buf : Bytes) (limit : Nat) :
    s.afterOperand .encode buf limit =
      { s with enc := { s.enc with frees := if buf.length < limit then s.enc.frees + 1 else s.enc.frees } } := by
  unfold State.afterOperand
  split <;> rfl

theorem State.afterOperand_decode (s : State) (buf : Bytes) (limit : Nat) :
    s.afterOperand .decode buf limit =
      { s with dec := { s.dec with frees := if buf.length < limit then s.dec.frees + 1 else s.dec.frees } } := by
  unfold State.afterOperand
  split <;> rfl

theorem State.raise_encode_moved (s : State) (c : Cause) : s.EncodeMoved (s.raise .encode c) :=
  State.EncodeMoved.raised (Encoder.Kept.refl s.enc) c

theorem State.raise_decode_moved (s : State) (c : Cause) : s.DecodeMoved (s.raise .decode c) :=
  State.DecodeMoved.raised (Decoder.Kept.refl s.dec) c

theorem State.eod_encode_moved (s : State) : s.EncodeMoved { s with last := some .eod } :=
  ⟨rfl, rfl, ⟨s.enc, s.enc.failed, Encoder.Kept.refl _, rfl, .inl rfl⟩, fun r h he => by cases h; cases he⟩

theorem State.eod_decode_moved (s : State) : s.DecodeMoved { s with last := some .eod } :=
  .of_kept (call := s.dec.call) (Decoder.Kept.refl _) rfl rfl rfl fun r h he => by cases h; cases he

/-- `VARINT_DEC` answers a value, ends in `EOD` or raises `VARINT_OVERFLOW`, and writes nothing else. -/
theorem State.answerVarint_encode {s t : State} {bs : Bytes} {pos : Nat} {r : VarintRead}
    (h : s.answerVarint .encode bs pos r = .next t) : s.EncodeMoved t := by
  cases r with
  | ok v rest => exact State.answer_encode (Encoder.Kept.refl s.enc) h
  | eod => cases h; exact s.eod_encode_moved
  | overflow => cases h; exact s.raise_encode_moved _

theorem State.answerVarint_decode {s t : State} {bs : Bytes} {pos : Nat} {r : VarintRead}
    (h : s.answerVarint .decode bs pos r = .next t) : s.DecodeMoved t := by
  cases r with
  | ok v rest => exact State.answer_decode (Decoder.Kept.refl s.dec) h
  | eod => cases h; exact s.eod_decode_moved
  | overflow => cases h; exact s.raise_decode_moved _

/-- `AC_DECODE` answers an address and writes the cache, ends in `EOD` or raises its cause. -/
theorem State.answerAddress_encode {s t : State} {bs : Bytes} {pos : Nat} {r : AddrRead}
    (hr : ∀ {a rest c}, r = .ok a rest c → s.enc.ws.cache.wf s.enc.cfg → c.wf s.enc.cfg)
    (h : s.answerAddress .encode bs pos r = .next t) : s.EncodeMoved t := by
  cases r with
  | ok a rest c => exact State.answer_encode (s.enc.setCache_kept (hr rfl)) h
  | eod => cases h; exact s.eod_encode_moved
  | err c => cases h; exact s.raise_encode_moved _

theorem State.answerAddress_decode {s t : State} {bs : Bytes} {pos : Nat} {r : AddrRead}
    (hr : ∀ {a rest c}, r = .ok a rest c → s.dec.cache.wf s.dec.cfg → c.wf s.dec.cfg)
    (h : s.answerAddress .decode bs pos r = .next t) : s.DecodeMoved t := by
  cases r with
  | ok a rest c => exact State.answer_decode (s.dec.setCache_kept (hr rfl)) h
  | eod => cases h; exact s.eod_decode_moved
  | err c => cases h; exact s.raise_decode_moved _

/-- An operation of the encode side that creates no session moves that session only. -/
theorem State.runOp_encode {s t : State} {o : HostOp} (hs : o.side = .encode) (hc : o.creates = false)
    (h : s.runOp o = .next t) : s.EncodeMoved t := by
  have same : ∀ v, s.answer v = .next t → s.EncodeMoved t := fun v h => State.answer_encode (Encoder.Kept.refl s.enc) h
  have raised : ∀ c, (.next (s.raise .encode c) : Host.Outcome State Fault Refusal) = .next t → s.EncodeMoved t := fun c h => by
    cases h; exact State.EncodeMoved.raised (Encoder.Kept.refl s.enc) c
  have settle : ∀ x : Act Encoder Value, x.leaves s.enc.Kept → s.settleEncode x = .next t → s.EncodeMoved t :=
    fun x hx h => State.settleEncode_moved hx h
  have req : ∀ (b : Bool) (x : Act Encoder Value), x.leaves s.enc.Kept → (Act.requires b s.enc x).leaves s.enc.Kept :=
    fun b x hx => Act.leaves_requires (Encoder.Kept.refl _) hx
  have lift : ∀ x : Act Serializer Unit, x.leaves (Serializer.Kept s.enc.cfg s.enc.ws) → (s.enc.liftWs x).unit.leaves s.enc.Kept :=
    fun x hx => Act.unit_leaves (s.enc.liftWs_kept hx)
  cases o <;> simp only [HostOp.side, HostOp.creates, reduceCtorEq, Bool.true_eq_false] at hs hc <;>
    simp only [State.runOp] at h <;> try subst hs
  case lendTarget chunk =>
    have hk : s.enc.Kept { s.enc with tgtIn := Memory.ofBytes chunk } :=
      Encoder.kept_of_ws rfl rfl rfl rfl (fun _ => Memory.ofBytes_wf chunk) (Serializer.Kept.refl _ _)
    exact State.answer_encode hk h
  case varintLen => exact same _ h
  case varintEnc =>
    unfold State.opVarintEnc at h
    split at h
    · exact raised _ h
    · exact same _ h
  case varintDec =>
    rw [State.opVarintDec, State.afterOperand_encode] at h
    exact State.EncodeMoved.after (s.enc.drawn_kept _) (State.answerVarint_encode h)
  case acReset =>
    exact State.answer_encode (s.enc.setCache_kept fun hw => AddrCache.wf_reset (Nat.zero_lt_of_lt hw.2.2)) h
  case acUpdate => exact State.answer_encode (s.enc.setCache_kept fun hw => AddrCache.wf_update hw _) h
  case acEncode =>
    unfold State.opAcEncode at h
    split at h
    · exact raised _ h
    · rename_i he
      exact State.answer_encode (s.enc.setCache_kept fun hw => AddrCache.wf_encode hw he) h
  case acDecode =>
    rw [State.opAcDecode, State.afterOperand_encode] at h
    exact State.EncodeMoved.after (s.enc.drawn_kept _)
      (State.answerAddress_encode (fun he hw => AddrCache.wf_decode hw he) h)
  case rhInit => exact State.answer_encode s.enc.initHash_kept h
  case rhHash =>
    unfold State.opRhHash at h
    split at h
    · exact State.answer_encode (s.enc.drawn_kept _) h
    · exact same _ h
  case rhRoll x out new =>
    exact settle _ (req _ (.ok s.enc (.num (rhRoll s.enc.removeTable s.enc.cfg.hashMult x out new))) (Encoder.Kept.refl s.enc)) h
  case bhBuild => exact settle _ (req _ _ (Act.unit_leaves s.enc.buildIndex_kept)) h
  case bhFind =>
    unfold State.opBhFind at h
    split at h
    · exact raised _ h
    · split at h
      · exact same _ h
      · exact State.answer_encode (s.enc.drawn_kept _) h
  case cpParse => exact settle _ (req _ _ (Act.unit_leaves (cpParse_kept _ _))) h
  case encodeStream target =>
    refine settle (Encoder.streamValue (encodeStream s.enc target)) ?_ h
    exact Act.leaves_bind (encodeStream_kept _ _) fun e _ _ hk => hk
  case imBuild => exact State.answer_encode s.enc.buildMap_kept h
  case imEncode => exact settle _ (req _ _ (lift _ (imEncode_kept _ _ _ _))) h
  case wsInit => exact settle _ (req _ _ (lift _ (wsInit_kept _ _ _))) h
  case wsAdd => exact settle _ (req _ _ (lift _ (wsAdd_kept _ _ _ _))) h
  case wsRun => exact settle _ (req _ _ (lift _ (wsRun_kept _ _ _ _ _))) h
  case wsCopy => exact settle _ (req _ _ (lift _ (wsCopy_kept _ _ _ _ _))) h
  case wsOutput => exact settle _ (req _ _ (Act.unit_leaves (wsOutput_kept _ _))) h
  case wsStreamHeader => exact settle _ (Act.unit_leaves (wsStreamHeader_kept s.enc)) h

/-- An operation of the decode side that creates no session moves that session only. -/
theorem State.runOp_decode {s t : State} {o : HostOp} (hs : o.side = .decode) (hc : o.creates = false)
    (h : s.runOp o = .next t) : s.DecodeMoved t := by
  have same : ∀ v, s.answer v = .next t → s.DecodeMoved t := fun v h => State.answer_decode (Decoder.Kept.refl s.dec) h
  have raised : ∀ c, (.next (s.raise .decode c) : Host.Outcome State Fault Refusal) = .next t → s.DecodeMoved t := fun c h => by
    cases h; exact State.DecodeMoved.raised (Decoder.Kept.refl s.dec) c
  have settle : ∀ x : Act Decoder Value, x.leaves s.dec.Kept → s.settleDecode x = .next t → s.DecodeMoved t :=
    fun x hx h => State.settleDecode_moved hx h
  have body : ∀ mode c, s.opBody mode c = .next t → s.DecodeMoved t := by
    intro mode c h
    unfold State.opBody at h
    split at h
    · cases h
      exact .of_kept (call := some c) s.dec.enterBody_kept rfl rfl rfl fun r h _ => .inl h
    · exact raised _ h
  cases o <;> simp only [HostOp.side, HostOp.creates, reduceCtorEq, Bool.true_eq_false] at hs hc <;>
    simp only [State.runOp] at h <;> try subst hs
  case supplyDelta bytes => exact State.answer_decode (s.dec.supply_kept bytes s.dec.call) h
  case varintLen => exact same _ h
  case varintEnc =>
    unfold State.opVarintEnc at h
    split at h
    · exact raised _ h
    · exact same _ h
  case varintDec =>
    rw [State.opVarintDec, State.afterOperand_decode] at h
    exact State.DecodeMoved.after (s.dec.drawn_kept _) (State.answerVarint_decode h)
  case acReset =>
    exact State.answer_decode (s.dec.setCache_kept fun hw => AddrCache.wf_reset (Nat.zero_lt_of_lt hw.2.2)) h
  case acUpdate => exact State.answer_decode (s.dec.setCache_kept fun hw => AddrCache.wf_update hw _) h
  case acEncode =>
    unfold State.opAcEncode at h
    split at h
    · exact raised _ h
    · rename_i he
      exact State.answer_decode (s.dec.setCache_kept fun hw => AddrCache.wf_encode hw he) h
  case acDecode =>
    rw [State.opAcDecode, State.afterOperand_decode] at h
    exact State.DecodeMoved.after (s.dec.drawn_kept _)
      (State.answerAddress_decode (fun he hw => AddrCache.wf_decode hw he) h)
  case idInit buf first last =>
    have hk : s.dec.Kept (s.dec.idInit buf first last) := ⟨rfl, rfl, rfl, rfl, rfl, id, id⟩
    exact State.answer_decode hk h
  case idNext =>
    refine settle _ (Act.leaves_requires (Decoder.Kept.refl _) ?_) h
    exact Act.leaves_bind s.dec.idNext_kept fun d _ _ hk => hk
  case sdHeader => exact settle _ (Act.unit_leaves s.dec.sdHeader_kept) h
  case wdParse => exact settle _ (Act.unit_leaves s.dec.wdParse_kept) h
  case bdStart => exact settle _ (Act.unit_leaves s.dec.bdStart_kept) h
  case bdRun => exact body _ _ h
  case bdStep => exact body _ _ h
  case decodeCall bytes =>
    cases h
    exact .of_kept (call := (s.dec.beginCall bytes).call) (s.dec.beginCall_kept bytes) rfl rfl rfl fun r h _ => .inl h

/-- An operation that creates no session, in a failed session or not, moves the session of its side only. -/
theorem State.perform_cases {s t : State} {o : HostOp} (hc : o.creates = false) (h : s.perform o = .next t) :
    (o.side = .encode ∧ s.EncodeMoved t) ∨ (o.side = .decode ∧ s.DecodeMoved t) := by
  cases hf : s.failedOf o.side with
  | none =>
    rw [State.perform_running hf] at h
    cases hs : o.side with
    | encode => exact .inl ⟨rfl, State.runOp_encode hs hc h⟩
    | decode => exact .inr ⟨rfl, State.runOp_decode hs hc h⟩
  | some c =>
    rw [State.perform_failed hf hc] at h
    cases h
    cases hs : o.side with
    | encode =>
      rw [hs] at hf
      exact .inl ⟨rfl, rfl, rfl, ⟨s.enc, s.enc.failed, Encoder.Kept.refl _, rfl, .inl rfl⟩, fun _ _ _ => .inr ⟨c, hf⟩⟩
    | decode =>
      rw [hs] at hf
      exact .inr ⟨rfl, rfl, rfl, ⟨s.dec, s.dec.failed, s.dec.call, Decoder.Kept.refl _, rfl, .inl rfl⟩, fun _ _ _ => .inr ⟨c, hf⟩⟩

/-- The creation of a session replaces that session and nothing else of the two. -/
theorem State.perform_creates_cases {s t : State} {o : HostOp} (hc : o.creates = true) (h : s.perform o = .next t) :
    (∃ cfg dict, o = .newEncoder cfg dict ∧ t = s.newEncoder cfg dict) ∨
    (∃ cfg dict, o = .newDecoder cfg dict ∧ t = s.newDecoder cfg dict) := by
  rw [State.perform_creates hc] at h
  cases o <;> simp only [HostOp.creates, Bool.false_eq_true] at hc <;> cases h
  · exact .inl ⟨_, _, rfl, rfl⟩
  · exact .inr ⟨_, _, rfl, rfl⟩

/-- Everything one step can do: nothing; an operation of either side; the creation of a session; a piece of a decode operation; the commit of a window. -/
theorem step_effects {s t : State} (h : step s = .next t) :
    t = s ∨
    (s.dec.call = none ∧ ∃ o rest, s.ops = o :: rest ∧ o.creates = false ∧
      ((o.side = .encode ∧ State.EncodeMoved { s with ops := rest } t) ∨
        (o.side = .decode ∧ State.DecodeMoved { s with ops := rest } t))) ∨
    (s.dec.call = none ∧ ∃ rest cfg dict, s.ops = .newEncoder cfg dict :: rest ∧
      t = State.newEncoder { s with ops := rest } cfg dict) ∨
    (s.dec.call = none ∧ ∃ rest cfg dict, s.ops = .newDecoder cfg dict :: rest ∧
      t = State.newDecoder { s with ops := rest } cfg dict) ∨
    (s.dec.call ≠ none ∧ (s.DecodeMoved t ∨ s.Committed t)) := by
  rcases step_cases h with ⟨_, _, rfl⟩ | ⟨o, rest, hc, ho, h⟩ | ⟨c, hc, h⟩
  · exact .inl rfl
  · cases hcr : o.creates with
    | false => exact .inr (.inl ⟨hc, o, rest, ho, hcr, State.perform_cases hcr h⟩)
    | true =>
      rcases State.perform_creates_cases hcr h with ⟨cfg, dict, rfl, rfl⟩ | ⟨cfg, dict, rfl, rfl⟩
      · exact .inr (.inr (.inl ⟨hc, rest, cfg, dict, ho, rfl⟩))
      · exact .inr (.inr (.inr (.inl ⟨hc, rest, cfg, dict, ho, rfl⟩)))
  · exact .inr (.inr (.inr (.inr ⟨by simp [hc], State.advance_cases h⟩)))

end Sys2Proof.Machine
end

