-- ==== Sys2Proof/Laws/Mapping.lean ====
section
/-! SUPPORT. The maps of the instruction mapper, the bytes of `instBuf` under a fusion, and the length of a window's body. -/

namespace Sys2Proof.Machine

/-! ### Maps kept in registration order (spec/45_code_table_and_instruction_map.md R163, R164) -/

theorem mapLookup_append {κ : Type} [DecidableEq κ] (k : κ) (m m' : List (κ × Byte)) : mapLookup k (m ++ m') = (mapLookup k m).or (mapLookup k m') := by
  induction m with
  | nil => rfl
  | cons p m ih => obtain ⟨a, b⟩ := p; simp only [List.cons_append, mapLookup]; split <;> simp_all

theorem mapLookup_register {κ : Type} [DecidableEq κ] (k k' : κ) (m : List (κ × Byte)) (op : Byte) :
    mapLookup k (mapRegister m k' op) = (mapLookup k m).or (if k' = k then some op else none) := by
  unfold mapRegister
  split
  · rename_i v h
    by_cases hk : k' = k
    · subst hk; simp [h]
    · simp [hk]
  · rw [mapLookup_append]; simp only [mapLookup]

/-- Registering one key an opcode, for opcodes in order: each key keeps its first opcode. -/
theorem mapLookup_fold {κ : Type} [DecidableEq κ] (k : κ) (f : List (κ × Byte) → Nat → List (κ × Byte)) (key : Nat → Option κ)
   (hf : ∀ m op, f m op = match key op with | none => m | some k' => mapRegister m k' (BitVec.ofNat 8 op)) :
   ∀ (ops : List Nat) (m : List (κ × Byte)), mapLookup k (ops.foldl f m) = (mapLookup k m).or ((ops.find? fun op => decide (key op = some k)).map (BitVec.ofNat 8)) := by
  intro ops
  induction ops with
  | nil => intro m; simp
  | cons op ops ih =>
    intro m
    rw [List.foldl_cons, ih, hf]
    cases hk : key op with
    | none => simp [hk]
    | some k' =>
      simp only [mapLookup_register]
      by_cases hkk : k' = k
      · subst hkk; cases mapLookup k' m <;> simp [hk]
      · simp [hk, hkk]

/-! ### The opcode byte that a fusion rewrites (spec/20_memory.md R61) -/

theorem Memory.write_read (m : Memory) (a : Nat) (b : Byte) (j : Nat) : (m.write a b).read j = if j = a then (m.read a).map (fun _ => b) else m.read j := by
  induction m with
  | nil => simp [Memory.write, Memory.read]
  | cons c m ih =>
    obtain ⟨k, x⟩ := c
    simp only [Memory.write, List.map_cons] at ih ⊢
    by_cases hk : k = a
    · subst hk
      simp only [if_true, Memory.read]
      by_cases hj : k = j
      · subst hj; simp
      · simp only [hj, if_false]; rw [ih]; simp [Ne.symm hj]
    · simp only [hk, if_false, Memory.read]
      by_cases hj : k = j
      · subst hj; simp [hk]
      · simp only [hj, if_false]; exact ih

theorem Memory.write_bytes {m : Memory} (hm : m.wf = true) {A B : Bytes} {x : Byte} (h : m.bytes = A ++ x :: B) (c : Byte) : (m.write A.length c).bytes = A ++ c :: B := by
  have h1 : (m.write A.length c).bytes = m.bytes.set A.length c := by
    have hw := Memory.wf_write hm A.length c
    apply List.ext_getElem?
    intro i
    rw [← Memory.read_of_wf hw, Memory.write_read, List.getElem?_set, Memory.read_of_wf hm, Memory.read_of_wf hm]
    by_cases hi : i = A.length
    · subst hi
      simp [h]
    · simp [hi, Ne.symm hi]
  rw [h1, h]; simp

/-! ### The serializer (spec/46_window_serializer.md R185) -/

/-- R185: the body's length is the one computed from the section lengths. -/
theorem Serializer.windowBody_length (ws : Serializer) (ck : Bytes) : (ws.windowBody ck).length = ws.deltaLen ck := by
  simp [Serializer.windowBody, Serializer.deltaLen, varintEncode_length]; omega

end Sys2Proof.Machine
end

