-- ==== Sys2Proof/Laws/Matching.lean ====
section
/-! SUPPORT. The rolling hash and the block-hash index: the hash of one byte more, the chains while blocks are inserted, and where a match comes from. -/

namespace Sys2Proof.Machine

/-! ### The rolling hash (spec/42_rolling_hash.md R125 to R129) -/

/-- R127's loop from any value, as the polynomial of R125. -/
theorem hashFrom_eq (c : Nat) (bs : Bytes) : ∀ h, hashFrom c h bs % hashMod = (h * c ^ bs.length + ∑ i ∈ Finset.range bs.length, c ^ (bs.length - 1 - i) * (bs.getD i 0).toNat) % hashMod := by
  induction bs with
  | nil => intro h; simp [hashFrom]
  | cons b bs ih =>
    intro h
    show hashFrom c ((h * c + b.toNat) % hashMod) bs % hashMod = _
    rw [ih]
    rw [List.length_cons, Finset.sum_range_succ']
    have e : ∀ i ∈ Finset.range bs.length, c ^ (bs.length + 1 - 1 - (i+1)) * ((b :: bs).getD (i+1) 0).toNat = c ^ (bs.length - 1 - i) * (bs.getD i 0).toNat := by
      intro i hi; simp; left; congr 1; omega
    rw [Finset.sum_congr rfl e]
    simp only [Nat.add_sub_cancel, Nat.sub_zero, List.getD_cons_zero]
    rw [Nat.add_mod, Nat.mod_mul_mod, ← Nat.add_mod]
    congr 1; ring

theorem rhHash_cons (c : Nat) (b : Byte) (bs : Bytes) : rhHash c (b :: bs) % hashMod = (b.toNat * c ^ bs.length + rhHash c bs) % hashMod := by
  have h1 := hashFrom_eq c bs ((0 * c + b.toNat) % hashMod)
  have h2 := hashFrom_eq c bs 0
  show hashFrom c ((0 * c + b.toNat) % hashMod) bs % hashMod = _
  rw [h1]
  simp only [zero_mul, zero_add] at h2 ⊢
  show _ = (b.toNat * c ^ bs.length + hashFrom c 0 bs) % hashMod
  rw [Nat.add_mod _ (hashFrom _ _ _), h2, ← Nat.add_mod, Nat.add_mod, Nat.mod_mul_mod, ← Nat.add_mod]

theorem rhHash_snoc (c : Nat) (b : Byte) (bs : Bytes) : rhHash c (bs ++ [b]) = (rhHash c bs * c + b.toNat) % hashMod := by
  simp [rhHash, hashFrom]

/-! ### The chains (spec/43_block_hash.md R137) -/

/-- The chain from a block is a list of blocks, and ends after it. -/
def Linked (next : List (Option Nat)) : Option Nat → List Nat → Prop
  | none, [] => True
  | some x, y :: l => x = y ∧ Linked next (next.getD x none) l
  | _, _ => False

theorem Linked.chain_eq {next : List (Option Nat)} : ∀ (l : List Nat) (st : Option Nat) (fuel : Nat), Linked next st l → l.length < fuel → chainFrom next fuel st = l := by
  intro l
  induction l with
  | nil => intro st fuel h hf; cases st <;> cases fuel <;> simp_all [Linked, chainFrom]
  | cons y l ih =>
    intro st fuel h hf
    cases st with
    | none => simp [Linked] at h
    | some x =>
      obtain ⟨rfl, h⟩ := h
      cases fuel with
      | zero => omega
      | succ f => simp only [chainFrom]; rw [ih _ _ h (by simpa using hf)]

theorem Linked.congr {next next' : List (Option Nat)} : ∀ (l : List Nat) (st : Option Nat), Linked next st l → (∀ x ∈ l, next'.getD x none = next.getD x none) → Linked next' st l := by
  intro l
  induction l with
  | nil => intro st h _; cases st <;> simp_all [Linked]
  | cons y l ih =>
    intro st h hx
    cases st with
    | none => simp [Linked] at h
    | some x =>
      obtain ⟨rfl, h⟩ := h
      refine ⟨rfl, ?_⟩
      rw [hx x (by simp)]
      exact ih _ h (fun z hz => hx z (by simp [hz]))

/-- A block linked after the last of a chain. -/
theorem Linked.snoc {next next' : List (Option Nat)} (b : Nat) : ∀ (l : List Nat) (st : Option Nat), Linked next st l → l ≠ [] → l.Nodup →
    (∀ x ∈ l, some x ≠ l.getLast? → next'.getD x none = next.getD x none) → (∀ x, l.getLast? = some x → next'.getD x none = some b) →
    next'.getD b none = none → Linked next' st (l ++ [b]) := by
  intro l
  induction l with
  | nil => intro st h hn; exact absurd rfl hn
  | cons y l ih =>
    intro st h hn hd h1 h2 h3
    cases st with
    | none => simp [Linked] at h
    | some x =>
      obtain ⟨rfl, h⟩ := h
      refine ⟨rfl, ?_⟩
      cases l with
      | nil =>
        rw [h2 x rfl]
        exact ⟨rfl, by rw [h3]; trivial⟩
      | cons z l =>
        rw [h1 x (by simp) (by
          intro e
          have : x ∈ (z :: l) := by
            rw [List.getLast?_cons_cons] at e
            exact List.mem_of_getLast? e.symm
          exact (List.nodup_cons.mp hd).1 this)]
        exact ih _ h (by simp) (List.nodup_cons.mp hd).2 (fun w hw e => h1 w (by simp at hw ⊢; tauto) (by rwa [List.getLast?_cons_cons])) (fun w hw => h2 w (by rwa [List.getLast?_cons_cons])) h3

/-! ### Matches (spec/43_block_hash.md R138 to R141) -/

/-- R140's loops: how many bytes are equal, and why there are no more. -/
theorem commonLen_spec : ∀ (xs ys : Bytes), commonLen xs ys ≤ xs.length ∧ commonLen xs ys ≤ ys.length ∧
   (∀ i, i < commonLen xs ys → xs[i]? = ys[i]?) ∧
   (commonLen xs ys = xs.length ∨ commonLen xs ys = ys.length ∨ xs[commonLen xs ys]? ≠ ys[commonLen xs ys]?) := by
  intro xs
  induction xs with
  | nil => intro ys; simp [commonLen]
  | cons x xs ih =>
    intro ys
    cases ys with
    | nil => simp [commonLen]
    | cons y ys =>
      obtain ⟨h1, h2, h3, h4⟩ := ih ys
      by_cases h : x = y
      · subst h
        simp only [commonLen, if_true, List.length_cons]
        refine ⟨by omega, by omega, ?_, ?_⟩
        · intro i hi; cases i with
          | zero => simp
          | succ i => simpa using h3 i (by omega)
        · simp only [List.getElem?_cons_succ]; rcases h4 with h | h | h
          · left; omega
          · right; left; omega
          · right; right; exact h
      · simp [commonLen, h]

/-- R138: the verified block lies inside the dictionary and its bytes are the target's. -/
theorem blockEq_spec {B : Nat} {dict tgt : Bytes} {b tpos : Nat} (h : blockEq B dict tgt b tpos = true) (hB : 1 ≤ B) :
    (∀ i, i < B → dict[b*B+i]? = tgt[tpos+i]? ) ∧ (b+1)*B ≤ dict.length := by
  unfold blockEq at h
  rw [List.all_eq_true] at h
  have key : ∀ i, i < B → dict[b*B+i]? = tgt[tpos+i]? ∧ b*B+i < dict.length := by
    intro i hi
    have := h i (by simpa using hi)
    split at this
    · rename_i x y hx hy; rw [hx, hy]; simp at this; subst this; exact ⟨rfl, (List.getElem?_eq_some_iff.mp hx).1⟩
    · cases this
  refine ⟨fun i hi => (key i hi).1, ?_⟩
  have := (key (B-1) (by omega)).2
  rw [Nat.add_mul]; omega

/-- R139 answers verified blocks only. -/
theorem nextMatching_verified {B dict tgt next tpos} : ∀ p st b, nextMatching B dict tgt next tpos p st = some b → blockEq B dict tgt b tpos = true := by
  intro p
  induction p with
  | zero => intro st b h; simp [nextMatching] at h
  | succ p ih =>
    intro st b h
    cases st with
    | none => simp [nextMatching] at h
    | some c =>
      simp only [nextMatching] at h
      split at h
      · cases h; assumption
      · exact ih _ _ h

/-- R141 answers the extension of a verified block. -/
theorem findLoop_verified {B dict tgt next tpos ts te} : ∀ left st best m, (∀ b, st = some b → blockEq B dict tgt b tpos = true) →
   (∀ m, best = some m → ∃ b, blockEq B dict tgt b tpos = true ∧ m = extendMatch B dict tgt b tpos ts te) →
   findLoop B dict tgt next tpos ts te left st best = some m → ∃ b, blockEq B dict tgt b tpos = true ∧ m = extendMatch B dict tgt b tpos ts te := by
  intro left
  induction left with
  | zero => intro st best m _ hb h; exact hb _ (by simpa [findLoop] using h)
  | succ left ih =>
    intro st best m hs hb h
    cases st with
    | none => exact hb _ (by simpa [findLoop] using h)
    | some b =>
      simp only [findLoop] at h
      refine ih _ _ _ (fun b h => nextMatching_verified _ _ _ h) ?_ h
      intro m' hm'
      cases best with
      | none => simp [betterMatch] at hm'; exact ⟨b, hs _ rfl, hm'.symm⟩
      | some m0 =>
        simp only [betterMatch] at hm'
        split at hm' <;> cases hm'
        · exact ⟨b, hs _ rfl, rfl⟩
        · exact hb _ rfl

end Sys2Proof.Machine
end

