-- ==== Sys2Proof/Laws/Parsing.lean ====
section
/-! SUPPORT. The field scanners of the window decoder: each answers the same whatever follows the bytes it read (spec/48_window_decoder.md R213), and never leaves more bytes than it was given. -/

namespace Sys2Proof.Machine

/-- The answer `Ok` or `ERROR` of a scanner does not change when more bytes arrive. -/
def Scan.Settled {α : Type} (f : Bytes → Scan α) : Prop :=
  ∀ bs more, (∀ c, f bs = .err c → f (bs ++ more) = .err c) ∧ ∀ a r, f bs = .ok a r → f (bs ++ more) = .ok a (r ++ more)

/-- A scanner leaves no more bytes than it was given. -/
def Scan.Shorter {α : Type} (f : Bytes → Scan α) : Prop :=
  ∀ bs a r, f bs = .ok a r → r.length ≤ bs.length

theorem Scan.Settled.bind {α β : Type} {f : Bytes → Scan α} {g : α → Bytes → Scan β} (hf : Scan.Settled f) (hg : ∀ a, Scan.Settled (g a)) : Scan.Settled (fun bs => (f bs).bind g) := by
  intro bs more
  constructor
  · intro c h
    rw [Scan.bind_eq_err] at h
    rcases h with h | ⟨a, r, h1, h2⟩
    · simp [(hf bs more).1 c h]
    · simp [(hf bs more).2 a r h1, (hg a r more).1 c h2]
  · intro b r h
    rw [Scan.bind_eq_ok] at h
    obtain ⟨a, r1, h1, h2⟩ := h
    simp [(hf bs more).2 a r1 h1, (hg a r1 more).2 b r h2]

theorem Scan.Settled.ok {α : Type} (a : α) : Scan.Settled (fun bs => Scan.ok a bs) := by intro bs more; simp

theorem scanByte_settled : Scan.Settled scanByte := by intro bs more; cases bs <;> simp [scanByte]

theorem scanVar_settled (max) : Scan.Settled (scanVar max) := by
  intro bs more
  have := varintDecodeFrom_more max bs more 0
  unfold scanVar varintDecode
  cases h : varintDecodeFrom max 0 bs with
  | ok v r => simp [this.2 v r h]
  | eod => simp
  | overflow => simp [this.1 h]

theorem scanBytes_settled (n) : Scan.Settled (scanBytes n) := by
  intro bs more
  unfold scanBytes
  split
  · simp
  · rename_i h
    rw [if_neg (by simp; omega)]
    simp only [reduceCtorEq, false_implies, implies_true, true_and, Scan.ok.injEq, and_imp]
    rintro a r rfl rfl
    rw [List.take_append_of_le_length (by omega), List.drop_append_of_le_length (by omega)]; simp

theorem scanCheck_settled (b c) : Scan.Settled (scanCheck b c) := by
  intro bs more; unfold scanCheck; split <;> simp

theorem scanSegment_settled (dl wi) : Scan.Settled (scanSegment dl wi) := by
  unfold scanSegment
  by_cases h : wi &&& 0x01 = 0
  · simp only [h, if_true]; exact Scan.Settled.ok _
  · simp only [h, if_false]
    exact Scan.Settled.bind (scanVar_settled _) fun _ => Scan.Settled.bind (scanVar_settled _) fun _ => Scan.Settled.bind (scanCheck_settled _ _) fun _ => Scan.Settled.ok _

theorem scanChecksum_settled (v wi) : Scan.Settled (scanChecksum v wi) := by
  unfold scanChecksum
  by_cases h : wi &&& 0x04 = 0
  · simp only [h, if_true]; exact Scan.Settled.ok _
  · by_cases h2 : v = 0x53
    · simp only [h, h2, if_true, if_false]; exact Scan.Settled.bind (scanVar_settled _) fun _ => Scan.Settled.ok _
    · simp only [h, h2, if_false]; exact Scan.Settled.bind (scanBytes_settled _) fun _ => Scan.Settled.ok _

theorem scanSections_settled (m a b c) : Scan.Settled (scanSections m a b c) := by
  unfold scanSections; cases m
  · exact Scan.Settled.bind (scanBytes_settled _) fun _ => Scan.Settled.ok _
  · exact Scan.Settled.ok _

theorem scanVar_shorter (m) : Scan.Shorter (scanVar m) := by
  intro bs a r h; unfold scanVar varintDecode at h; split at h <;> cases h; exact varintDecodeFrom_shorter _ _ _ _ _ (by assumption)

theorem scanByte_shorter : Scan.Shorter scanByte := by intro bs a r h; cases bs <;> simp [scanByte] at h; simp [h]

theorem scanBytes_shorter (n) : Scan.Shorter (scanBytes n) := by intro bs a r h; unfold scanBytes at h; split at h <;> cases h; simp

theorem scanCheck_shorter (b c) : Scan.Shorter (scanCheck b c) := by intro bs a r h; unfold scanCheck at h; split at h <;> cases h; exact le_rfl

theorem scanChecksum_shorter (v w) : Scan.Shorter (scanChecksum v w) := by
  intro bs a r h; unfold scanChecksum at h
  split at h
  · cases h; exact le_rfl
  · split at h
    · rw [Scan.bind_eq_ok] at h; obtain ⟨_, _, h1, h2⟩ := h; cases h2; exact scanVar_shorter _ _ _ _ h1
    · rw [Scan.bind_eq_ok] at h; obtain ⟨_, _, h1, h2⟩ := h; cases h2; exact scanBytes_shorter _ _ _ _ h1

theorem Scan.Shorter.bind {α β : Type} {f : Bytes → Scan α} {g : α → Bytes → Scan β} (hf : Scan.Shorter f) (hg : ∀ a, Scan.Shorter (g a)) : Scan.Shorter (fun bs => (f bs).bind g) := by
  intro bs a r h; rw [Scan.bind_eq_ok] at h; obtain ⟨x, y, h1, h2⟩ := h; exact (hg _ _ _ _ h2).trans (hf _ _ _ h1)

theorem Scan.Shorter.ok {α : Type} (a : α) : Scan.Shorter (fun bs => Scan.ok a bs) := by intro bs a r h; cases h; exact le_rfl

theorem scanSections_shorter (m a b c) : Scan.Shorter (scanSections m a b c) := by
  unfold scanSections; cases m
  · exact Scan.Shorter.bind (scanBytes_shorter _) fun _ => Scan.Shorter.ok _
  · exact Scan.Shorter.ok _

end Sys2Proof.Machine
end

