-- ==== Sys2Proof/Laws/Pending.lean ====
section
/-! SUPPORT. No instruction reads or writes `pendingSecond`: running one with another value there gives the same outcome with that value there (spec/49_body_decoder.md R231). So the first instruction of a compound opcode fails or waits as a single one does. -/

namespace Sys2Proof.Machine

/-- An outcome with `pendingSecond` set in every session it carries. -/
def Act.setPending (p : Option Byte) : Act Decoder Unit → Act Decoder Unit
  | .ok d a => .ok { d with pendingSecond := p } a
  | .eod d => .eod { d with pendingSecond := p }
  | .err d c => .err { d with pendingSecond := p } c
  | .bad f => .bad f

theorem Source.ranOut_pending (x : Source) (d : Decoder) (p : Option Byte) :
    (x.ranOut { d with pendingSecond := p } : Act Decoder Unit)
      = Act.setPending p (x.ranOut d) := by
  unfold Source.ranOut; split <;> rfl

theorem Decoder.doAdd_pending (d : Decoder) (n : Nat) (p : Option Byte) :
    Decoder.doAdd { d with pendingSecond := p } n
      = Act.setPending p (d.doAdd n) := by
  have h : Decoder.literals { d with pendingSecond := p } = d.literals := rfl
  unfold Decoder.doAdd
  rw [h]; split
  · exact Source.ranOut_pending _ _ _
  · simp only [Act.setPending, Decoder.setLiteralPos]; cases hm : d.win.mode <;> rfl

theorem Decoder.doRun_pending (d : Decoder) (n : Nat) (p : Option Byte) :
    Decoder.doRun { d with pendingSecond := p } n
      = Act.setPending p (d.doRun n) := by
  have h : Decoder.literals { d with pendingSecond := p } = d.literals := rfl
  unfold Decoder.doRun
  rw [h]; split
  · exact Source.ranOut_pending _ _ _
  · simp only [Act.setPending, Decoder.setLiteralPos]; cases hm : d.win.mode <;> rfl

theorem Decoder.copyFrom_pending (x n : Nat) (d : Decoder) (p : Option Byte) :
    Decoder.copyFrom x n { d with pendingSecond := p }
      = Act.setPending p (Decoder.copyFrom x n d) := by
  induction n generalizing x d with
  | zero => rfl
  | succ n ih =>
    have h : Decoder.copyByte { d with pendingSecond := p } x = d.copyByte x := rfl
    simp only [Decoder.copyFrom, h]
    cases hb : d.copyByte x with
    | none => rfl
    | some b => exact ih (x + 1) { d with decoded := d.decoded.append [b] }

theorem Decoder.doCopy_pending (d : Decoder) (n m : Nat) (p : Option Byte) :
    Decoder.doCopy { d with pendingSecond := p } n m
      = Act.setPending p (d.doCopy n m) := by
  have h : Decoder.addresses { d with pendingSecond := p } = d.addresses := rfl
  have h2 : Decoder.here { d with pendingSecond := p } = d.here := rfl
  unfold Decoder.doCopy
  rw [h, h2]; simp only
  cases d.cache.decode d.cfg m d.here d.addresses.bytes with
  | eod => exact Source.ranOut_pending _ _ _
  | err c => rfl
  | ok a rest cache =>
    simp only
    have : ∀ q, Decoder.setAddressPos { d with pendingSecond := p, cache := cache } q = { Decoder.setAddressPos { d with cache := cache } q with pendingSecond := p } := by
      intro q; simp only [Decoder.setAddressPos]; cases d.win.mode <;> rfl
    rw [this]
    split
    · rfl
    · exact Decoder.copyFrom_pending _ _ _ _

theorem Decoder.perform_pending (d : Decoder) (t : Triple) (p : Option Byte) :
    Decoder.perform { d with pendingSecond := p } t
      = Act.setPending p (d.perform t) := by
  unfold Decoder.perform
  cases t.inst <;> simp only [Decoder.doAdd_pending, Decoder.doRun_pending, Decoder.doCopy_pending]
  rfl

theorem Decoder.needMore_pending (d : Decoder) (p : Option Byte) :
    Decoder.needMore { d with pendingSecond := p }
      = Act.setPending p d.needMore := by
  unfold Decoder.needMore
  simp only
  cases d.win.mode
  · rfl
  · simp only; split <;> rfl

theorem Decoder.retry_pending (d : Decoder) (t : Triple) (p : Option Byte) :
    Decoder.retry { d with pendingSecond := p } t
      = Act.setPending p (d.retry t) := by
  unfold Decoder.retry
  rw [Decoder.perform_pending]
  cases d.perform t with
  | ok => rfl
  | eod d1 => exact Decoder.needMore_pending _ _
  | err => rfl
  | bad => rfl

theorem Decoder.issue_pending (d : Decoder) (t : Triple) (p : Option Byte) :
    Decoder.issue { d with pendingSecond := p } t
      = Act.setPending p (d.issue t) := by
  unfold Decoder.issue
  simp only
  split
  · rfl
  · cases d.win.mode
    · simp only; rw [Decoder.perform_pending]
      cases d.perform t with
      | ok => rfl
      | eod d1 => exact Decoder.needMore_pending _ _
      | err => rfl
      | bad => rfl
    · exact Decoder.retry_pending { d with pendingInst := some t } _ _

/-! ### The first instruction of an opcode that fails or waits -/

/-- An error of the first instruction of an opcode is taken, a compound opcode standing in `pendingSecond`. -/
theorem exec_err {i : Instr} {s : State} {d : Decoder} {c : Cause} (hr : s.dec.running) (h : s.dec.issue i.first = .err d c) :
    exec i s = .next (State.raise { s with dec := d.underway i } .decode c) := by
  unfold Decoder.underway
  cases hs : i.second with
  | none => rw [exec_single hs, State.runSingle, State.inBody_running hr.1 hr.2, h]; rfl
  | some u =>
    rw [exec_pair hs, State.runPair, State.inBody_running hr.1 hr.2, Decoder.issuePair, Decoder.issue_pending, h]; rfl

/-- A first instruction that waits ends the operation in progress with `EOD`, a compound opcode standing in `pendingSecond`. -/
theorem exec_eod {i : Instr} {s : State} {d : Decoder} (hr : s.dec.running) (h : s.dec.issue i.first = .eod d) :
    exec i s = .next (State.suspend { s with dec := d.underway i }) := by
  unfold Decoder.underway
  cases hs : i.second with
  | none => rw [exec_single hs, State.runSingle, State.inBody_running hr.1 hr.2, h]; rfl
  | some u =>
    rw [exec_pair hs, State.runPair, State.inBody_running hr.1 hr.2, Decoder.issuePair, Decoder.issue_pending, h]; rfl

end Sys2Proof.Machine
end

