-- ==== Sys2Proof/Tests/Slice0.lean ====
section
/-! SUPPORT. Tests: expected results are the spec's own examples and vectors (spec/95_test_vectors.md, named in each comment). Then, for every statement with hypotheses, a witness that meets them. -/

namespace Sys2Proof.Tests

open Sys2Proof.Machine

/-! ### Small states -/

/-- The state a step or an instruction answers, if it answers one. -/
def next? (o : Host.Outcome State Fault Refusal) : Option State :=
  match o with
  | .next s => some s
  | .fault _ => none
  | .refused _ => none

/-- `DICT = "abcdefghijklmnop"`, the dictionary of the vectors of section 2.9. -/
def dict16 : Bytes :=
  [0x61, 0x62, 0x63, 0x64, 0x65, 0x66, 0x67, 0x68, 0x69, 0x6A, 0x6B, 0x6C, 0x6D, 0x6E, 0x6F, 0x70]

/-- A window over all of `dict16` with the given lengths. -/
def window (mode : WinMode) (target ld li la : Nat) : WindowHeader :=
  { winInd := 0x01, srcSegLen := 16, srcSegPos := 0, deltaLen := 0, targetLen := target, deltaInd := 0
    lenData := ld, lenInst := li, lenAddr := la, hasChecksum := false, checksum := 0, mode := mode }

/-- A standard window's body just started under `BD_RUN`. -/
def std (data inst addr : Bytes) (target : Nat) : State :=
  { State.reset with dec := { Decoder.reset defaultCfg (Memory.ofBytes dict16) with
      secData := Memory.ofBytes data, secInst := Memory.ofBytes inst, secAddr := Memory.ofBytes addr
      ibuf := .secInst, iend := inst.length, win := window .standard target data.length inst.length addr.length
      stage := .started, call := some .bdRun } }

/-- An interleaved window's body under `BD_STEP`, with `carry` arrived, `pos` bytes of it read, and `more` bytes outstanding. -/
def inter (carry : Bytes) (pos more target : Nat) : State :=
  { State.reset with dec := { Decoder.reset defaultCfg (Memory.ofBytes dict16) with
      carry := Memory.ofBytes carry, ibuf := .carry, ipos := pos, iend := carry.length, remaining := more
      win := window .interleaved target 0 (carry.length + more) 0
      stage := .started, call := some .bdStep } }

/-- A machine whose host has issued the given operations. -/
def issued (ops : List HostOp) : State :=
  { State.reset with ops := ops }

/-- The decoded bytes after an outcome. -/
def decodedOf (o : Host.Outcome State Fault Refusal) : Option Bytes :=
  (next? o).map fun t => t.dec.decoded.bytes

/-- The latch of the decode session after an outcome. -/
def latchOf (o : Host.Outcome State Fault Refusal) : Option (Option Cause) :=
  (next? o).map fun t => t.dec.failed

/-! ### Well-formedness: the check refuses a size above `VARINT_MAX` of every format `SV` row (spec/30_encoding.md R79) -/

theorem test_wellFormed_refuses_large_sizes :
    [Instr.runV 2147483648, .addV 2147483648, .copyVM0 2147483648, .copyVM1 2147483648, .copyVM2 2147483648,
      .copyVM3 2147483648, .copyVM4 2147483648, .copyVM5 2147483648, .copyVM6 2147483648, .copyVM7 2147483648,
      .copyVM8 2147483648].all (fun i => !i.wellFormed) = true := by decide

theorem test_wellFormed_accepts_the_largest_size :
    [Instr.runV 2147483647, .addV 2147483647, .copyVM0 2147483647, .copyVM8 2147483647, .add17, .copy4M8Add1].all
      Instr.wellFormed = true := by decide

/-! ### Decoding: words written out from R74 and the formulas of R80 -/

/-- `RUN`: opcode 0, then the varint of 300, `82 2C` (section 2.6). -/
theorem test_decode_run : decode [0x00, 0x82, 0x2C, 0xFF] = .instr (.runV 300) [0xFF] := by decide

/-- `ADD` of size 18 is opcode 1 with its varint; of size 17 the last inline opcode, 18 (section 2.6). -/
theorem test_decode_add : decode [0x01, 0x12] = .instr (.addV 18) [] ∧ decode [0x12] = .instr .add17 [] := by decide

/-- `COPY`: opcode `19 + 16 m` explicit, `16 + 16 m + size` inline, for modes 0, 6 and 8 (section 2.6). -/
theorem test_decode_copy :
    decode [0x13, 0x13] = .instr (.copyVM0 19) [] ∧ decode [0x22] = .instr .copy18M0 [] ∧
    decode [0x7C] = .instr .copy12M6 [] ∧ decode [0x94] = .instr .copy4M8 [] := by decide

/-- `ADD` then `COPY`: `163 + 12 m + 3 (a - 1) + (c - 4)` and `235 + 4 (m - 6) + (a - 1)` (section 2.6). -/
theorem test_decode_addCopy :
    decode [0xAE] = .instr .add4Copy6M0 [] ∧ decode [0xEA] = .instr .add4Copy6M5 [] ∧
    decode [0xEB] = .instr .add1Copy4M6 [] ∧ decode [0xF6] = .instr .add4Copy4M8 [] := by decide

/-- `COPY 4` then `ADD 1`: `247 + m` (section 2.6). -/
theorem test_decode_copyAdd : decode [0xF7] = .instr .copy4M0Add1 [] ∧ decode [0xFF] = .instr .copy4M8Add1 [] := by decide

/-- Incomplete bytes, and a size above `VARINT_MAX` (section 2.8). -/
theorem test_decode_short :
    decode [] = .short ∧ decode [0x00, 0x82] = .short ∧ decode [0x00, 0x88, 0x80, 0x80, 0x80, 0x80] = .sizeOverflow := by decide

/-- The table's numbering: the size bytes of an explicit size are the zero bytes above the opcode. -/
theorem test_decodeTableWord : decodeTableWord 8 0xA6 = some .add2Copy4M0 ∧ decodeTableWord 8 0x01 = some (.addV 0) := by decide

theorem test_encode : encode (.copyVM3 300) = [0x43, 0x82, 0x2C] ∧ encode .copy4M6Add1 = [0xFD] := by decide

/-! ### The varint (section 2.1) -/

theorem test_varint_encode :
    varintEncode 0 = [0x00] ∧ varintEncode 16384 = [0x81, 0x80, 0x00] ∧ varintEncode 2147483647 = [0x87, 0xFF, 0xFF, 0xFF, 0x7F] ∧
    varintEncode 0x224704F2 = [0x82, 0x92, 0x9C, 0x89, 0x72] := by decide

theorem test_varint_decode :
    varintDecode varintMax [0x80, 0x80, 0x01] = .ok 1 [] ∧ varintDecode varintMax [0x81] = .eod ∧
    varintDecode varintMax [0x88, 0x80, 0x80, 0x80] = .overflow ∧ varintDecode cksumMax [0x88, 0x80, 0x80, 0x80] = .eod ∧
    varintDecode cksumMax [0x8F, 0xFF, 0xFF, 0xFF, 0x7F] = .ok 4294967295 [] := by decide

/-! ### The address cache (section 2.2) -/

/-- Steps 1 to 6 of the sequence, from `AC_RESET`. -/
theorem test_addressCache_encode :
    (encodeAddresses defaultCfg (acReset defaultCfg) [(0, 100), (50, 110), (50, 120), (60, 130), (900, 1000), (905, 1010)]).map
        (fun p => (p.1, p.2.near, p.2.nextSlot)) =
      some ([⟨6, 0, true⟩, ⟨0, 50, false⟩, ⟨6, 50, true⟩, ⟨3, 10, false⟩, ⟨1, 100, false⟩, ⟨2, 5, false⟩], [900, 905, 50, 60], 2) := by
  decide

theorem test_addressCache_decode :
    (acReset defaultCfg).decode defaultCfg 0 10 [0x0A] = .err .invalidAddress ∧
    (acReset defaultCfg).decode defaultCfg 1 10 [0x0B] = .err .invalidAddress ∧
    (acReset defaultCfg).decode defaultCfg 2 10 [0x80] = .eod ∧
    (acReset defaultCfg).decode defaultCfg 9 10 [0x00] = .err .invalidMode := by decide

/-! ### The hashes (sections 2.3 and 2.4) -/

theorem test_rollingHash :
    rhHash 257 [0x61, 0x62, 0x63, 0x64] = 478090 ∧ rhHash 257 [0xFF, 0xFF, 0xFF, 0xFF] = 130556 ∧
    removeEntry 4 257 0x61 = 6020255 ∧ rhRoll (rhInit 4 257) 257 478090 0x61 0x65 = 741774 := by decide

theorem test_tableSize : [0, 3, 4, 7, 8, 12, 16, 36, 68, 164].map (tableSizeFor 30) =
    [some 1, some 1, some 2, some 2, some 4, some 4, some 8, some 16, some 32, some 64] := by decide

/-- The configuration of the matcher vectors: `B = 4`, `MIN_MATCH = 8`. -/
def cfg4 : Cfg :=
  { defaultCfg with blockSize := 4, minMatch := 8 }

/-- The 36-byte dictionary `"abc..z0123456789"`. -/
def dict36 : Bytes :=
  (List.range 26).map (fun i => BitVec.ofNat 8 (0x61 + i)) ++ (List.range 10).map (fun i => BitVec.ofNat 8 (0x30 + i))

/-- `"XYabcdefghijklZZ0123456789!"`. -/
def target27 : Bytes :=
  [0x58, 0x59, 0x61, 0x62, 0x63, 0x64, 0x65, 0x66, 0x67, 0x68, 0x69, 0x6A, 0x6B, 0x6C, 0x5A, 0x5A,
    0x30, 0x31, 0x32, 0x33, 0x34, 0x35, 0x36, 0x37, 0x38, 0x39, 0x21]

theorem test_blockHash_build : (bhBuild cfg4 dict36).map (fun x => (x.tableSize, x.nextBlock)) =
    some (16, [some 1, some 2, some 3, some 4, some 5, none, none, some 8, none]) := by decide

theorem test_blockHash_find : (bhBuild cfg4 dict36).map (fun x =>
      (bhFind cfg4 x dict36 target27 478090 2 0 27, bhFind cfg4 x dict36 target27 4862158 18 14 27)) =
    some (some ⟨0, 2, 12⟩, some ⟨26, 16, 10⟩) := by decide

/-! ### The instruction mapper and the serializer (sections 2.6 and 2.7) -/

/-- The rows of the maps of the default table that these tests need. -/
def someMap : InstrMap :=
  { first := [(⟨.run, 0, 0⟩, 0), (⟨.add, 0, 0⟩, 1), (⟨.add, 1, 0⟩, 2), (⟨.add, 3, 0⟩, 4), (⟨.copy, 0, 0⟩, 19), (⟨.copy, 4, 0⟩, 20),
      (⟨.copy, 16, 6⟩, 128)]
    second := [((2, ⟨.copy, 4, 0⟩), 163), ((20, ⟨.add, 1, 0⟩), 247)], built := true }

theorem test_registration :
    registerSingle .standard [] 163 = [] ∧ registerSingle .standard [] 3 = [(⟨.add, 2, 0⟩, 3)] ∧
    registerCompound .standard someMap.first [] 163 = [((2, ⟨.copy, 4, 0⟩), 163)] := by decide

/-- A serializer after `WS_INIT` with the given dictionary length. -/
def ws0 (dictLen : Nat) : Serializer :=
  { (Encoder.reset defaultCfg []).ws with dictLen := dictLen, ready := true }

/-- `instBuf` after a sequence of `IM_ENCODE`. -/
def mapped (ts : List Triple) : Option Bytes :=
  match encodeAll someMap (ws0 0) ts with
  | .ok ws _ => some ws.instBuf.bytes
  | _ => none

theorem test_fusion :
    mapped [⟨.add, 1, 0⟩, ⟨.copy, 4, 0⟩] = some [0xA3] ∧ mapped [⟨.copy, 4, 0⟩, ⟨.add, 1, 0⟩] = some [0xF7] ∧
    mapped [⟨.add, 1, 0⟩, ⟨.copy, 4, 0⟩, ⟨.add, 1, 0⟩] = some [0xA3, 0x02] ∧ mapped [⟨.run, 3, 0⟩, ⟨.add, 1, 0⟩] = some [0x00, 0x03, 0x02] ∧
    mapped [⟨.add, 1, 0⟩, ⟨.copy, 7, 0⟩] = some [0x02, 0x13, 0x07] := by decide

/-- An encode session with a 16-byte dictionary length and the maps above. -/
def enc0 (cfg : Cfg) : Encoder :=
  { Encoder.reset cfg [] with map := someMap, ws := ws0 16 }

/-- `DELTA_OUT` after one serializer operation and `WS_OUTPUT`. -/
def oneWindow (cfg : Cfg) (x : Act Serializer Unit) (checksum : Option Nat) : Option Bytes :=
  match (Encoder.liftWs (enc0 cfg) x).bind fun e _ => wsOutput e checksum with
  | .ok e _ => some e.deltaOut.bytes
  | _ => none

theorem test_wsAdd_standard : oneWindow defaultCfg (wsAdd defaultCfg someMap (ws0 16) [0x41, 0x42, 0x43]) none =
    some [0x01, 0x10, 0x00, 0x09, 0x03, 0x00, 0x03, 0x01, 0x00, 0x41, 0x42, 0x43, 0x04] := by decide

theorem test_wsAdd_interleaved :
    oneWindow { defaultCfg with interleaved := true } (wsAdd { defaultCfg with interleaved := true } someMap (ws0 16) [0x41, 0x42, 0x43]) none =
    some [0x01, 0x10, 0x00, 0x09, 0x03, 0x00, 0x00, 0x04, 0x00, 0x04, 0x41, 0x42, 0x43] := by decide

theorem test_wsAdd_checksums :
    oneWindow { defaultCfg with checksumFormat := .sdch } (wsAdd defaultCfg someMap (ws0 16) [0x41, 0x42, 0x43]) (some 0x018D00C7) =
      some [0x05, 0x10, 0x00, 0x0D, 0x03, 0x00, 0x03, 0x01, 0x00, 0x8C, 0xB4, 0x81, 0x47, 0x41, 0x42, 0x43, 0x04] ∧
    oneWindow { defaultCfg with checksumFormat := .xdelta3 } (wsAdd defaultCfg someMap (ws0 16) [0x41, 0x42, 0x43]) (some 0x018D00C7) =
      some [0x05, 0x10, 0x00, 0x0D, 0x03, 0x00, 0x03, 0x01, 0x00, 0x01, 0x8D, 0x00, 0xC7, 0x41, 0x42, 0x43, 0x04] := by decide

theorem test_wsRun : oneWindow defaultCfg (wsRun defaultCfg someMap (ws0 16) 5 0x7A) none =
    some [0x01, 0x10, 0x00, 0x08, 0x05, 0x00, 0x01, 0x02, 0x00, 0x7A, 0x00, 0x05] := by decide

theorem test_wsCopy : oneWindow defaultCfg (wsCopy defaultCfg someMap (ws0 16) 0 16) none =
    some [0x01, 0x10, 0x00, 0x07, 0x10, 0x00, 0x00, 0x01, 0x01, 0x80, 0x00] := by decide

theorem test_wsOutput_empty : wsOutput (enc0 defaultCfg) none = .err (enc0 defaultCfg) .encEmptyWindow := by rfl

/-- What a host that issues `o` to the encode session `e` receives. -/
def answerOf (e : Encoder) (o : HostOp) : Option (Option Reply) :=
  (next? (step { issued [o] with enc := e })).map fun t => t.last

/-- R282's numbered order: `WS_INIT` after `BH_BUILD`, `WS_STREAM_HEADER` once, then `WS_OUTPUT`. -/
theorem test_order :
    answerOf (Encoder.reset defaultCfg []) (.wsInit 16) = some (some (.error .seqOrder)) ∧
    answerOf (enc0 defaultCfg) (.wsOutput none) = some (some (.error .seqOrder)) ∧
    answerOf (enc0 defaultCfg) .wsStreamHeader = some (some (.ok .unit)) ∧
    answerOf (enc0 defaultCfg).writeHeader .wsStreamHeader = some (some (.error .seqOrder)) ∧
    answerOf (enc0 defaultCfg).writeHeader (.wsOutput none) = some (some (.error .encEmptyWindow)) := by decide +kernel

/-- Where a rule states no result the operation runs and the value is free: a window past the space, a limit past the buffer, an empty range; an empty bucket is `NONE` in any range (R141). -/
theorem test_free_values :
    answerOf (Encoder.reset defaultCfg []) (.rhHash .dict 0) = some (some (.ok (.num (Config.freeHash 0 % hashMod)))) ∧
    answerOf (Encoder.reset defaultCfg []) (.varintDec .encode [0x05] 0 3 .varint) = some (some (.ok (.varint 5 1))) ∧
    answerOf { Encoder.reset defaultCfg [] with index := BlockIndex.empty 0 0 1 } (.bhFind 0 5 9 3) = some (some (.ok (.found none))) ∧
    answerOf { Encoder.reset defaultCfg [] with index := { BlockIndex.empty 16 1 1 with hashTable := [some 0] } } (.bhFind 0 5 9 3) =
      some (some (.ok (.found (freeFound 0)))) := ⟨rfl, rfl, rfl, rfl⟩

/-! ### The stream header and the window header (section 2.9) -/

theorem test_fileHeader :
    scanFileHeader [0xD6, 0xC3, 0xC4, 0x00, 0x04, 0x03, 0x41, 0x42, 0x43] = .ok 0x00 [] ∧
    scanFileHeader [0xD6, 0xC3] = .eod ∧ scanFileHeader [0xD6, 0xC3, 0xC5] = .err .badMagic ∧
    scanFileHeader [0xD6, 0xC3, 0xC4, 0x01, 0x00] = .err .badVersion ∧
    scanFileHeader [0xD6, 0xC3, 0xC4, 0x00, 0x08] = .err .reservedBits := by decide

/-- E10 to E16 and E19. -/
theorem test_windowHeader :
    scanWindow defaultCfg 16 0 [0x02] = .err .targetWindowUnsupported ∧
    scanWindow defaultCfg 16 0 [0x01, 0x10, 0x01] = .err .sourceSegmentRange ∧
    scanWindow { defaultCfg with maxWindowSize := 15 } 16 0 [0x01, 0x10, 0x00, 0x07, 0x10] = .err .windowTooLarge ∧
    scanWindow defaultCfg 16 0 [0x01, 0x10, 0x00, 0x08, 0x10, 0x00, 0x00, 0x01, 0x01, 0x20, 0x00] = .err .lengthInvariant ∧
    scanWindow defaultCfg 16 0 [0x01, 0x10, 0x00, 0x07, 0x10, 0x00, 0x00, 0x01, 0x01, 0x20] = .eod ∧
    scanWindow defaultCfg 16 0x53 [0x05, 0x10, 0x00, 0x0D, 0x03, 0x00, 0x03, 0x01, 0x00, 0x01, 0x8D, 0x00, 0xC7, 0x41, 0x42, 0x43, 0x04] =
      .err .lengthInvariant := by decide

/-! ### The instructions (section 2.10) -/

/-- `ADD 3` of `"ABC"` (E20), in both window modes. -/
theorem test_add : decodedOf (exec .add3 (std [0x41, 0x42, 0x43] [0x04] [] 3)) = some [0x41, 0x42, 0x43] ∧
    decodedOf (exec .add3 (inter [0x04, 0x41, 0x42, 0x43] 1 0 3)) = some [0x41, 0x42, 0x43] := by decide

/-- `RUN 5` of `7A` (E21); a `RUN` of explicit size 0 reads its byte and writes nothing (E22). -/
theorem test_run : decodedOf (exec (.runV 5) (std [0x7A] [] [] 5)) = some [0x7A, 0x7A, 0x7A, 0x7A, 0x7A] ∧
    (next? (exec (.runV 0) (std [0x7A, 0x41] [] [] 1))).map (fun t => (t.dec.decoded.bytes, t.dec.dpos)) = some ([], 1) := by decide

/-- `COPY 16`, mode 0, address 0 (E17); `COPY 4` at 14 runs from the dictionary into its own output (E23). -/
theorem test_copy : decodedOf (exec .copy16M0 (std [] [] [0x00] 16)) = some dict16 ∧
    decodedOf (exec .copy4M0 (std [] [] [0x0E] 4)) = some [0x6F, 0x70, 0x6F, 0x70] := by decide

/-- `ADD 3` then `COPY 4` at 16 over the window's own output, opcode `A9` (E38, with a source segment). -/
theorem test_addCopy : decodedOf (exec .add3Copy4M0 (std [0x41, 0x42, 0x43] [] [0x10] 7)) =
    some [0x41, 0x42, 0x43, 0x41, 0x42, 0x43, 0x41] := by decide

/-- `COPY 4` mode 6 at byte `04` of a fresh cache, which is address 0, then `ADD 1`. -/
theorem test_copyAdd : decodedOf (exec .copy4M6Add1 (std [0x5A] [] [0x04] 5)) = some [0x61, 0x62, 0x63, 0x64, 0x5A] := by decide

/-- E32 (overrun), E30 (literals missing), E35 (address not below `here`), E23 under `refuse`. -/
theorem test_instruction_errors :
    latchOf (exec .copy16M0 (std [] [] [0x00] 15)) = some (some .instructionOverrun) ∧
    latchOf (exec .add3 (std [0x41, 0x42] [] [] 3)) = some (some .truncatedSection) ∧
    latchOf (exec .copy4M0 (std [] [] [0x10] 4)) = some (some .invalidAddress) ∧
    latchOf (exec .copy4M0 { std [] [] [0x0E] 4 with dec := { (std [] [] [0x0E] 4).dec with
      cfg := { defaultCfg with targetCopyMode := .refuse } } }) = some (some .copyRange) := by decide

/-- E29: an interleaved `ADD` whose literals end waits, then is truncated when none are outstanding. -/
theorem test_interleaved_wait :
    (next? (exec .add3 (inter [0x04, 0x41, 0x42] 1 1 3))).map (fun t => (t.dec.pendingInst, t.last)) =
      some (some ⟨.add, 3, 0⟩, some .eod) ∧
    latchOf (exec .add3 (inter [0x04, 0x41, 0x42] 1 0 3)) = some (some .truncatedSection) := by decide

/-! ### Windows and calls -/

/-- The completion of E17: the bytes are committed and `Ok` is answered. -/
theorem test_complete : (next? (step { std [] [] [] 0 with dec := { (std [] [] [] 0).dec with decoded := Memory.ofBytes [0x41], written := 0 } })).map
      (fun t => (t.dec.tgtOut.bytes, t.dec.written, t.last)) = some ([0x41], 1, some (.ok .unit)) := by decide

/-- Adler-32 of `"ABC"` is `0x018D00C7` (E24), of `"Goodbye World"` `0x224704F2` (P1). -/
theorem test_adler : adler32 [0x41, 0x42, 0x43] = 0x018D00C7 ∧
    adler32 [0x47, 0x6F, 0x6F, 0x64, 0x62, 0x79, 0x65, 0x20, 0x57, 0x6F, 0x72, 0x6C, 0x64] = 0x224704F2 := by decide

/-- Section 2.11. -/
theorem test_configuration :
    checkEncodeCfg { defaultCfg with minMatch := 31 } = some .cfgMinMatch ∧
    checkEncodeCfg { defaultCfg with nearSize := 0 } = some .cfgCacheSize ∧
    checkEncodeCfg { defaultCfg with interleaved := true, checksumFormat := .xdelta3 } = some .cfgXdelta3Interleaved ∧
    checkEncodeCfg { defaultCfg with blockSize := 0 } = some .cfgBlockSize ∧
    checkEncodeCfg { defaultCfg with maxMatches := 33 } = some .cfgParam := by decide

theorem test_default_configuration : checkEncodeCfg defaultCfg = none ∧ checkDecodeCfg defaultCfg = none := by decide +kernel

/-- A word placed for the fetch is the instruction the next step runs. -/
theorem test_withFetchWord : decodedOf (step (State.reset.withFetchWord 8 0x04)) =
    some (List.replicate 32 0x00 ++ [0x41, 0x41, 0x41]) := by decide +kernel

/-! ### Witnesses: for each statement with hypotheses, values that meet them, one for each clause -/

theorem witness_DecodeOfEncode : (Instr.runV 2147483647).wellFormed = true ∧ Instr.copy4M8Add1.wellFormed = true := by decide

/-- With an explicit size, and without. -/
theorem witness_DecodedInstruction :
    decode [0x00, 0x82, 0x2C, 0x99] = .instr (.runV 300) [0x99] ∧ (Instr.runV 300).explicitSize = some 300 ∧
    decode [0x12, 0x99] = .instr .add17 [0x99] ∧ Instr.add17.explicitSize = none := by decide

/-- The three answers of `decode`, on the session of section 2.8's examples. -/
theorem witness_FetchIsIdNext :
    (∀ inst : Bytes, (std [] inst [] 0).dec.cfg.codeTable = .standard ∧ (std [] inst [] 0).dec.pendingSecond = none) ∧
    (std [] [0xA6] [] 0).dec.instructions.bytes.length = (std [] [0xA6] [] 0).dec.iend - (std [] [0xA6] [] 0).dec.ipos ∧
    decode (std [] [0xA6] [] 0).dec.instructions.bytes = .instr .add2Copy4M0 [] ∧
    (std [] [0x00, 0x82] [] 0).dec.instructions.bytes.length = (std [] [0x00, 0x82] [] 0).dec.iend - (std [] [0x00, 0x82] [] 0).dec.ipos ∧
    decode (std [] [0x00, 0x82] [] 0).dec.instructions.bytes = .short ∧
    (std [] [0x00, 0x88, 0x80, 0x80, 0x80] [] 0).dec.instructions.bytes.length
      = (std [] [0x00, 0x88, 0x80, 0x80, 0x80] [] 0).dec.iend - (std [] [0x00, 0x88, 0x80, 0x80, 0x80] [] 0).dec.ipos ∧
    decode (std [] [0x00, 0x88, 0x80, 0x80, 0x80] [] 0).dec.instructions.bytes = .sizeOverflow :=
  ⟨fun _ => ⟨rfl, rfl⟩, by decide, by decide, by decide, by decide, by decide, by decide⟩

theorem witness_StepRunsDecodedInstruction :
    (std [0x41, 0x42, 0x43] [0x04] [] 3).fetching ∧
    decode (std [0x41, 0x42, 0x43] [0x04] [] 3).dec.instructions.bytes = .instr .add3 [] ∧ Instr.add3.wellFormed = true :=
  ⟨⟨.inl rfl, rfl, rfl, rfl, rfl, rfl⟩, by decide, by decide⟩

/-- At the bound itself; all five bytes, and four of them. -/
theorem witness_VarintRoundTrip :
    2147483647 ≤ varintMax ∧ varintLen 2147483647 ≤ 5 ∧ 4 < varintLen 2147483647 ∧ varintEncode 300 <+: varintEncode 300 := by
  decide

theorem witness_VarintDecodedBound :
    varintMax % 128 = 127 ∧ varintDecode varintMax [0x87, 0xFF, 0xFF, 0xFF, 0x7F, 0x99] = .ok 2147483647 [0x99] ∧
    cksumMax % 128 = 127 ∧ varintDecode cksumMax [0x8F, 0xFF, 0xFF, 0xFF, 0x7F] = .ok 4294967295 [] := by decide

/-- The three clauses, from `AC_RESET`: not below `here`, a `SAME` hit, a miss. -/
theorem witness_EncodeAddressChoice :
    10 ≤ 10 ∧ (0 < 100 ∧ (acReset defaultCfg).same.getD (0 % (defaultCfg.sameSize * 256)) 0 = 0) ∧
    (50 < 110 ∧ (acReset defaultCfg).same.getD (50 % (defaultCfg.sameSize * 256)) 0 ≠ 50) := by decide

theorem witness_AddressZeroAfterReset :
    1 ≤ defaultCfg.sameSize ∧ 0 < 1 ∧ (acReset defaultCfg).same.getD (0 % (defaultCfg.sameSize * 256)) 0 = 0 := by decide

/-- A `SAME` hit, a `SELF`, and an address above `VARINT_MAX` whose `HERE` value is 1. -/
theorem witness_CachesAgree :
    1 ≤ defaultCfg.sameSize ∧ (∀ p ∈ [(0, 100), (50, 110), (varintMax + 1, varintMax + 2)], p.1 < p.2) ∧
    (encodeAddresses defaultCfg (acReset defaultCfg) [(0, 100), (50, 110), (varintMax + 1, varintMax + 2)]).all
      (fun r => r.1.all fun f => f.isByte || decide (f.value ≤ varintMax)) = true := by decide +kernel

/-- A `SELF`, a `HERE`, a near and a `SAME` field (section 2.2). -/
theorem witness_DecodedAddress :
    (∃ c, (acReset defaultCfg).decode defaultCfg 0 10 [0x09] = .ok 9 [] c) ∧
    (∃ c, (acReset defaultCfg).decode defaultCfg 1 10 [0x0A] = .ok 0 [] c) ∧
    (∃ c, (acReset defaultCfg).decode defaultCfg 2 10 [0x03] = .ok 3 [] c) ∧
    ∃ c, (acReset defaultCfg).decode defaultCfg 6 10 [0x05] = .ok 0 [] c :=
  ⟨⟨_, rfl⟩, ⟨_, rfl⟩, ⟨_, rfl⟩, ⟨_, rfl⟩⟩

theorem witness_RollEqualsRehash : 1 ≤ 4 ∧ 0 + 4 + 1 ≤ [0x61, 0x62, 0x63, 0x64, 0x65].length := by decide

/-- Both answers of R136, the first at the bound. -/
theorem witness_TableSizeIsSmallest : tableSizeFor 1 7 = some 2 ∧ tableSizeFor 1 8 = none := by decide

/-- A bucket with a chain of two blocks, and its link. -/
theorem witness_ChainsListBlocks :
    (bhBuild cfg4 dict36).map (fun x => (decide (14 < x.tableSize), x.hashTable.getD 14 none, x.nextBlock.getD 7 none)) =
      some (true, some 7, some 8) ∧ (bhBuild cfg4 dict36).isSome = true := by decide

theorem witness_FoundMatchIsReal :
    1 ≤ cfg4.blockSize ∧ 14 ≤ 18 ∧ 18 + cfg4.blockSize ≤ 27 ∧ 27 ≤ target27.length ∧
    (bhBuild cfg4 dict36).bind (fun x => bhFind cfg4 x dict36 target27 4862158 18 14 27) = some ⟨26, 16, 10⟩ := by decide

/-- The three kinds, at both ends of the size range. -/
theorem witness_DefaultTableEncodesAll :
    (1 ≤ 1 ∧ 1 ≤ varintMax) ∧ (1 ≤ varintMax ∧ varintMax ≤ varintMax) ∧
    (InstType.add = .add ∧ 0 = 0) ∧ (InstType.run = .run ∧ 0 = 0) ∧ (InstType.copy = .copy ∧ 8 < 9) := by decide

/-- The three outcomes: fused, inline size, explicit size. -/
theorem witness_FusionLookahead :
    (∃ ws1, imEncode someMap ((ws0 0).emit 0x02 []) ⟨.copy, 4, 0⟩ = .ok ws1 () ∧ ws1.lastOpIdx = none) ∧
    (∃ ws1, imEncode someMap (ws0 0) ⟨.add, 1, 0⟩ = .ok ws1 () ∧ ws1.instBuf.bytes = [0x02]) ∧
    ∃ ws1, imEncode someMap (ws0 0) ⟨.run, 200, 0⟩ = .ok ws1 () ∧ ws1.instBuf.bytes = [0x00, 0x81, 0x48] :=
  ⟨⟨_, rfl, rfl⟩, ⟨_, rfl, by decide⟩, ⟨_, rfl, by decide⟩⟩

/-- A table of three rows: `ADD` of explicit size, `COPY 4` mode 0, and the two fused. -/
def table3 : CodeTable :=
  .custom [entryOf 1 0 0 0 0 0, entryOf 3 4 0 0 0 0, entryOf 1 0 0 3 4 0]

/-- A decode session under `table3` with the given instruction bytes. -/
def fetcher (bytes : Bytes) : Decoder :=
  { (std [] bytes [] 0).dec with cfg := { defaultCfg with codeTable := table3 } }

set_option maxRecDepth 20000 in
theorem witness_MapperAndDecoderAgree :
    (ws0 0).instBuf = [] ∧ (ws0 0).lastOpIdx = none ∧
    (∃ ws1, encodeAll (imBuild table3) (ws0 0) [⟨.add, 2, 0⟩, ⟨.copy, 4, 0⟩, ⟨.copy, 4, 0⟩] = .ok ws1 () ∧
      (fetcher [0x02, 0x02, 0x01]).instructions.bytes = ws1.instBuf.bytes) ∧
    (fetcher [0x02, 0x02, 0x01]).cfg.codeTable = table3 ∧ (fetcher [0x02, 0x02, 0x01]).pendingSecond = none := by
  refine ⟨rfl, rfl, ⟨_, rfl, ?_⟩, rfl, rfl⟩
  decide +kernel

/-- One refusal of each operation, and the `COPY` that finds no opcode. -/
theorem witness_SerializerErrorsPrecise :
    ((ws0 16).dictLen ≤ varintMax ∧ (ws0 16).targetLen ≤ varintMax) ∧
    wsAdd defaultCfg someMap (ws0 16) [] = .err (ws0 16) .encRange ∧
    wsRun defaultCfg someMap (ws0 16) 0 0x7A = .err (ws0 16) .encRange ∧
    wsCopy defaultCfg someMap (ws0 16) 16 4 = .err (ws0 16) .encRange ∧
    ∃ ws1, wsCopy defaultCfg { first := [], second := [], built := true } (ws0 16) 4 4 = .err ws1 .encNoOpcode :=
  ⟨⟨by decide, by decide⟩, rfl, rfl, rfl, ⟨_, rfl⟩⟩

theorem witness_SerializerCounts :
    defaultCfg.interleaved = false ∧ (∃ ws1, wsAdd defaultCfg someMap (ws0 16) [0x41] = .ok ws1 ()) ∧
    (∃ ws1, wsRun defaultCfg someMap (ws0 16) 5 0x7A = .ok ws1 ()) ∧ ∃ ws1, wsCopy defaultCfg someMap (ws0 16) 4 4 = .ok ws1 () :=
  ⟨rfl, ⟨_, rfl⟩, ⟨_, rfl⟩, ⟨_, rfl⟩⟩

/-- A window of `ADD 1` in a standard session, and in an interleaved one with a checksum. -/
theorem witness_SerializedWindowParses :
    (∃ e e1, ¬ (e.cfg.checksumFormat = .xdelta3 ∧ e.cfg.interleaved = true) ∧ wsOutput e none = .ok e1 () ∧
      e.ws.targetLen ≤ defaultCfg.maxWindowSize ∧ e.ws.dictLen ≤ 16) ∧
    ∃ e e1, ¬ (e.cfg.checksumFormat = .xdelta3 ∧ e.cfg.interleaved = true) ∧ wsOutput e (some 0x00420042) = .ok e1 () ∧
      e.ws.targetLen ≤ defaultCfg.maxWindowSize ∧ e.ws.dictLen ≤ 16 := by
  refine ⟨⟨{ enc0 defaultCfg with ws := { ws0 16 with targetLen := 1, dataBuf := [(0, 0x41)], instBuf := [(0, 0x02)] } }, _,
    by decide, rfl, by decide, by decide⟩, ⟨{ enc0 { defaultCfg with interleaved := true, checksumFormat := .sdch } with
      ws := { ws0 16 with targetLen := 1, instBuf := [(0, 0x02), (1, 0x41)] } }, _, by decide, rfl, by decide, by decide⟩⟩

/-- An encode session ready to parse, over the 36-byte dictionary. -/
def parser36 : Encoder :=
  { (enc0 cfg4).initHash with dict := Memory.ofBytes dict36, index := (bhBuild cfg4 dict36).getD (BlockIndex.empty 0 0 1)
                              ws := ws0 36 }

/-- A chunk shorter than a block, and one whose parse finds a match. -/
theorem witness_ParseCoversChunk :
    1 ≤ parser36.cfg.blockSize ∧ (∃ e1, cpParse parser36 [0x61, 0x62, 0x63] = .ok e1 ()) ∧
    (match cpParse parser36 ([0x58] ++ (dict36.drop 4).take 10) with
      | .ok e1 _ => decide (e1.ws.targetLen = 11 ∧ e1.ws.dataBuf.bytes = [0x58] ∧ e1.ws.addrBuf.len = 1)
      | _ => false) = true := by
  refine ⟨by decide, ⟨_, rfl⟩, by decide +kernel⟩

/-- An encode session whose file header is written. -/
def headed : Encoder :=
  { Encoder.reset { defaultCfg with tableMaxLog2 := 0 } [] with headerDone := true }

/-- The smallest table for an empty dictionary, before the header and after it. -/
theorem witness_EmptyTargetIsHeaderOnly :
    checkEncodeCfg (Encoder.reset { defaultCfg with tableMaxLog2 := 0 } []).cfg = none ∧
    (Encoder.reset { defaultCfg with tableMaxLog2 := 0 } []).dict.len ≤ varintMax ∧
    (Encoder.reset { defaultCfg with tableMaxLog2 := 0 } []).dict.len / 4 + 1
      ≤ 2 ^ (Encoder.reset { defaultCfg with tableMaxLog2 := 0 } []).cfg.tableMaxLog2 ∧
    (Encoder.reset { defaultCfg with tableMaxLog2 := 0 } []).headerDone = false ∧
    (checkEncodeCfg headed.cfg = none ∧ headed.dict.len ≤ varintMax ∧ headed.dict.len / 4 + 1 ≤ 2 ^ headed.cfg.tableMaxLog2 ∧
      headed.headerDone = true) := by decide +kernel

/-- A session whose unread bytes are given, after its stream header. -/
def parsing (bytes : Bytes) : Decoder :=
  { Decoder.reset defaultCfg (Memory.ofBytes dict16) with deltaIn := Memory.ofBytes bytes, streamVersion := some 0x00 }

/-- `ERROR`, `Ok` with a byte left over, `EOD` and `ERROR` of `WD_PARSE`. -/
theorem witness_WindowParseAllOrNothing :
    scanWindow defaultCfg 16 0x00 [0x02] = .err .targetWindowUnsupported ∧
    (∃ w, scanWindow defaultCfg 16 0x00 [0x00, 0x05, 0x00, 0x00, 0x00, 0x00, 0x00, 0x99] = .ok w [0x99]) ∧
    (parsing [0x01]).wdParse = .eod (parsing [0x01]) ∧
    (parsing [0x02]).wdParse = .err (parsing [0x02]) .targetWindowUnsupported ∧ (parsing [0x02]).inPos ≤ (parsing [0x02]).deltaIn.len ∧
    ∃ d1, (parsing [0x00, 0x05, 0x00, 0x00, 0x00, 0x00, 0x00]).wdParse = .ok d1 () :=
  ⟨by decide, ⟨_, rfl⟩, rfl, rfl, by decide, ⟨_, rfl⟩⟩

theorem witness_WindowTooLarge :
    0 + 16 ≤ 16 ∧ 16 ≤ varintMax ∧ 0 ≤ varintMax ∧ 7 ≤ varintMax ∧ 16 ≤ varintMax ∧
    ({ defaultCfg with maxWindowSize := 15 } : Cfg).maxWindowSize < 16 := by decide

/-! #### Instructions -/

/-- `ADD_3` and `ADD_V` in a standard and an interleaved window, with exactly the bytes needed. -/
theorem witness_AddCompletes :
    (Instr.add3.first = ⟨.add, 3, 0⟩ ∧ Instr.add3.second = none ∧ (Instr.addV 3).first = ⟨.add, 3, 0⟩ ∧ (Instr.addV 3).second = none) ∧
    ((std [0x41, 0x42, 0x43] [] [] 3).dec.running ∧ (std [0x41, 0x42, 0x43] [] [] 3).dec.decoded.len + 3 ≤ 3 ∧
      (std [0x41, 0x42, 0x43] [] [] 3).dec.dpos + 3 ≤ (std [0x41, 0x42, 0x43] [] [] 3).dec.win.lenData ∧
      (std [0x41, 0x42, 0x43] [] [] 3).dec.win.lenData ≤ (std [0x41, 0x42, 0x43] [] [] 3).dec.secData.len) ∧
    ((inter [0x04, 0x41, 0x42, 0x43] 1 0 3).dec.running ∧ (inter [0x04, 0x41, 0x42, 0x43] 1 0 3).dec.decoded.len + 3 ≤ 3 ∧
      (inter [0x04, 0x41, 0x42, 0x43] 1 0 3).dec.ipos + 3 ≤ (inter [0x04, 0x41, 0x42, 0x43] 1 0 3).dec.iend ∧
      (inter [0x04, 0x41, 0x42, 0x43] 1 0 3).dec.iend ≤ (inter [0x04, 0x41, 0x42, 0x43] 1 0 3).dec.carry.len) :=
  ⟨by decide, ⟨⟨rfl, rfl⟩, by decide, by decide, by decide⟩, ⟨⟨rfl, rfl⟩, by decide, by decide, by decide⟩⟩

theorem witness_RunCompletes :
    ((std [0x7A] [] [] 5).dec.running ∧ (std [0x7A] [] [] 5).dec.decoded.len + 5 ≤ (std [0x7A] [] [] 5).dec.win.targetLen ∧
      (std [0x7A] [] [] 5).dec.dpos < (std [0x7A] [] [] 5).dec.win.lenData ∧
      (std [0x7A] [] [] 5).dec.secData.bytes[(std [0x7A] [] [] 5).dec.dpos]? = some 0x7A) ∧
    ((inter [0x7A] 0 0 5).dec.running ∧ (inter [0x7A] 0 0 5).dec.decoded.len + 5 ≤ (inter [0x7A] 0 0 5).dec.win.targetLen ∧
      (inter [0x7A] 0 0 5).dec.ipos < (inter [0x7A] 0 0 5).dec.iend ∧
      (inter [0x7A] 0 0 5).dec.carry.bytes[(inter [0x7A] 0 0 5).dec.ipos]? = some 0x7A) :=
  ⟨⟨⟨rfl, rfl⟩, by decide, by decide, by decide⟩, ⟨⟨rfl, rfl⟩, by decide, by decide, by decide⟩⟩

/-- The copy space of these windows exists. -/
theorem witness_copySpaceFits (data inst addr carry : Bytes) (pos more target : Nat) :
    (std data inst addr target).dec.copySpaceFits ∧ (inter carry pos more target).dec.copySpaceFits :=
  ⟨⟨rfl, rfl, Nat.le_refl 16⟩, ⟨rfl, rfl, Nat.le_refl 16⟩⟩

/-- `COPY_4_M0` at the last address below `here`, in both window modes; the second one overlaps its own output. -/
theorem witness_CopyCompletes :
    (Instr.copy4M0.first = ⟨.copy, 4, 0⟩ ∧ Instr.copy4M0.second = none ∧ (Instr.copyVM0 4).first = ⟨.copy, 4, 0⟩) ∧
    ((std [] [] [0x0F] 4).dec.running ∧ (std [] [] [0x0F] 4).dec.copySpaceFits ∧
      (std [] [] [0x0F] 4).dec.decoded.len + 4 ≤ (std [] [] [0x0F] 4).dec.win.targetLen ∧
      (∃ c, (std [] [] [0x0F] 4).dec.cache.decode (std [] [] [0x0F] 4).dec.cfg 0
        ((std [] [] [0x0F] 4).dec.win.srcSegLen + (std [] [] [0x0F] 4).dec.decoded.len)
        (std [] [] [0x0F] 4).dec.addresses.bytes = .ok 15 [] c) ∧
      (std [] [] [0x0F] 4).dec.cfg.targetCopyMode ≠ .refuse) ∧
    ((inter [0x0F] 0 0 4).dec.running ∧ (inter [0x0F] 0 0 4).dec.copySpaceFits ∧
      (inter [0x0F] 0 0 4).dec.decoded.len + 4 ≤ (inter [0x0F] 0 0 4).dec.win.targetLen ∧
      (∃ c, (inter [0x0F] 0 0 4).dec.cache.decode (inter [0x0F] 0 0 4).dec.cfg 0
        ((inter [0x0F] 0 0 4).dec.win.srcSegLen + (inter [0x0F] 0 0 4).dec.decoded.len)
        (inter [0x0F] 0 0 4).dec.addresses.bytes = .ok 15 [] c) ∧
      (inter [0x0F] 0 0 4).dec.cfg.targetCopyMode ≠ .refuse) :=
  ⟨by decide, ⟨⟨rfl, rfl⟩, (witness_copySpaceFits [] [] [0x0F] [] 0 0 4).1, by decide, ⟨_, rfl⟩, by decide⟩,
    ⟨⟨rfl, rfl⟩, (witness_copySpaceFits [] [] [] [0x0F] 0 0 4).2, by decide, ⟨_, rfl⟩, by decide⟩⟩

/-- `ADD_3_COPY_4_M0`, opcode `A9`, in both window modes. -/
theorem witness_AddCopyCompletes :
    (Instr.add3Copy4M0.first = ⟨.add, 3, 0⟩ ∧ Instr.add3Copy4M0.second = some ⟨.copy, 4, 0⟩) ∧
    (∀ s ∈ [std [0x41, 0x42, 0x43] [] [0x10] 7, inter [0x41, 0x42, 0x43, 0x10] 0 0 7],
      s.dec.failed = none ∧ s.dec.stage = .started ∧ s.dec.dict.wf = true ∧ s.dec.decoded.wf = true ∧
      s.dec.win.srcSegPos + s.dec.win.srcSegLen ≤ s.dec.dict.len ∧ s.dec.decoded.len + 3 + 4 ≤ s.dec.win.targetLen ∧
      s.dec.cfg.targetCopyMode ≠ .refuse) ∧
    ((std [0x41, 0x42, 0x43] [] [0x10] 7).dec.dpos + 3 ≤ (std [0x41, 0x42, 0x43] [] [0x10] 7).dec.win.lenData ∧
      (std [0x41, 0x42, 0x43] [] [0x10] 7).dec.win.lenData ≤ (std [0x41, 0x42, 0x43] [] [0x10] 7).dec.secData.len ∧
      ∃ c, (std [0x41, 0x42, 0x43] [] [0x10] 7).dec.cache.decode defaultCfg 0 (16 + (0 + 3))
        ((std [0x41, 0x42, 0x43] [] [0x10] 7).dec.secAddr.slice 0 1) = .ok 16 [] c) ∧
    ((inter [0x41, 0x42, 0x43, 0x10] 0 0 7).dec.ipos + 3 ≤ (inter [0x41, 0x42, 0x43, 0x10] 0 0 7).dec.iend ∧
      (inter [0x41, 0x42, 0x43, 0x10] 0 0 7).dec.iend ≤ (inter [0x41, 0x42, 0x43, 0x10] 0 0 7).dec.carry.len ∧
      ∃ c, (inter [0x41, 0x42, 0x43, 0x10] 0 0 7).dec.cache.decode defaultCfg 0 (16 + (0 + 3))
        ((inter [0x41, 0x42, 0x43, 0x10] 0 0 7).dec.carry.slice (0 + 3) (4 - (0 + 3))) = .ok 16 [] c) :=
  ⟨by decide, by decide, ⟨by decide, by decide, ⟨_, rfl⟩⟩, ⟨by decide, by decide, ⟨_, rfl⟩⟩⟩

/-- `COPY_4_M6_ADD_1`, opcode `FD`, in both window modes. -/
theorem witness_CopyAddCompletes :
    (Instr.copy4M6Add1.first = ⟨.copy, 4, 6⟩ ∧ Instr.copy4M6Add1.second = some ⟨.add, 1, 0⟩) ∧
    (∀ s ∈ [std [0x5A] [] [0x04] 5, inter [0x04, 0x5A] 0 0 5],
      s.dec.failed = none ∧ s.dec.stage = .started ∧ s.dec.dict.wf = true ∧ s.dec.decoded.wf = true ∧
      s.dec.win.srcSegPos + s.dec.win.srcSegLen ≤ s.dec.dict.len ∧ s.dec.decoded.len + 5 ≤ s.dec.win.targetLen ∧
      s.dec.cfg.targetCopyMode ≠ .refuse) ∧
    ((∃ c, (std [0x5A] [] [0x04] 5).dec.cache.decode defaultCfg 6 (16 + 0) (std [0x5A] [] [0x04] 5).dec.addresses.bytes = .ok 0 [] c) ∧
      (std [0x5A] [] [0x04] 5).dec.dpos < (std [0x5A] [] [0x04] 5).dec.win.lenData ∧
      (std [0x5A] [] [0x04] 5).dec.secData.bytes[(std [0x5A] [] [0x04] 5).dec.dpos]? = some 0x5A) ∧
    ((∃ c, (inter [0x04, 0x5A] 0 0 5).dec.cache.decode defaultCfg 6 (16 + 0) (inter [0x04, 0x5A] 0 0 5).dec.addresses.bytes = .ok 0 [0x5A] c) ∧
      0 + ((inter [0x04, 0x5A] 0 0 5).dec.addresses.bytes.length - [(0x5A : Byte)].length) < (inter [0x04, 0x5A] 0 0 5).dec.iend ∧
      (inter [0x04, 0x5A] 0 0 5).dec.carry.bytes[0 + ((inter [0x04, 0x5A] 0 0 5).dec.addresses.bytes.length - [(0x5A : Byte)].length)]?
        = some 0x5A) :=
  ⟨by decide, by decide, ⟨⟨_, rfl⟩, by decide, by decide⟩, ⟨⟨_, rfl⟩, by decide, by decide⟩⟩

/-- Opcode `A9` as its halves, with the target length not reached and reached after the first. -/
theorem witness_CompoundIsItsHalves :
    (Instr.add3Copy4M0.second = some Instr.copy4M0.first ∧ Instr.add3Copy4M0.first = Instr.add3.first ∧
      Instr.add3.second = none ∧ Instr.copy4M0.second = none) ∧
    ((std [0x41, 0x42, 0x43] [] [0x10] 7).dec.running ∧
      ∃ s1, exec .add3 (std [0x41, 0x42, 0x43] [] [0x10] 7) = .next s1 ∧ s1.dec.failed = none ∧ s1.dec.waiting = none ∧
        s1.dec.outputFull = false) ∧
    ((std [0x41, 0x42, 0x43] [] [0x10] 3).dec.running ∧
      ∃ s1, exec .add3 (std [0x41, 0x42, 0x43] [] [0x10] 3) = .next s1 ∧ s1.dec.failed = none ∧ s1.dec.waiting = none ∧
        s1.dec.outputFull = true) :=
  ⟨by decide, ⟨⟨rfl, rfl⟩, ⟨_, rfl, rfl, rfl, by decide⟩⟩, ⟨⟨rfl, rfl⟩, ⟨_, rfl, rfl, rfl, by decide⟩⟩⟩

/-- `ADD` and `RUN`, completing in each window mode and waiting. -/
theorem witness_AddRunFrame :
    (Instr.add3.second = none ∧ Instr.add3.first.inst ≠ .copy ∧ (Instr.runV 5).second = none ∧ (Instr.runV 5).first.inst ≠ .copy) ∧
    (∃ t, exec .add3 (std [0x41, 0x42, 0x43] [] [] 3) = .next t ∧ t.dec.failed = none ∧ t.dec.waiting = none) ∧
    (∃ t, exec (.runV 5) (inter [0x7A] 0 0 5) = .next t ∧ t.dec.failed = none ∧ t.dec.waiting = none) ∧
    ∃ t, exec .add3 (inter [0x41] 0 1 3) = .next t :=
  ⟨by decide, ⟨_, rfl, rfl, rfl⟩, ⟨_, rfl, rfl, rfl⟩, ⟨_, rfl⟩⟩

theorem witness_CopyFrame :
    (Instr.copy4M0.second = none ∧ Instr.copy4M0.first.inst = .copy) ∧
    (∃ t, exec .copy4M0 (std [] [] [0x0F] 4) = .next t ∧ t.dec.failed = none ∧ t.dec.waiting = none) ∧
    ∃ t, exec .copy4M0 (inter [0x0F] 0 0 4) = .next t ∧ t.dec.failed = none ∧ t.dec.waiting = none :=
  ⟨by decide, ⟨_, rfl, rfl, rfl⟩, ⟨_, rfl, rfl, rfl⟩⟩

theorem witness_CompoundFrame :
    (∃ u, Instr.add3Copy4M0.second = some u) ∧
    (∃ t, exec .add3Copy4M0 (std [0x41, 0x42, 0x43] [] [0x10] 7) = .next t ∧ t.dec.failed = none ∧ t.dec.waiting = none) ∧
    ∃ t, exec .add3Copy4M0 (inter [0x41, 0x42, 0x43, 0x10] 0 0 7) = .next t ∧ t.dec.failed = none ∧ t.dec.waiting = none :=
  ⟨⟨_, rfl⟩, ⟨_, rfl, rfl, rfl⟩, ⟨_, rfl, rfl, rfl⟩⟩

/-- One byte too many, for a single and for a compound opcode. -/
theorem witness_OverrunIsRefused :
    (std [] [] [] 2).dec.running ∧ (std [] [] [] 2).dec.win.targetLen < (std [] [] [] 2).dec.decoded.len + Instr.add3.first.size ∧
    Instr.add3.second = none ∧
    (std [] [] [] 2).dec.win.targetLen < (std [] [] [] 2).dec.decoded.len + Instr.add3Copy4M0.first.size ∧
    Instr.add3Copy4M0.second ≠ none :=
  ⟨⟨rfl, rfl⟩, by decide, rfl, by decide, by decide⟩

/-- Each kind of instruction with one byte too few, and a compound opcode of each shape. -/
theorem witness_TruncatedStandard :
    (Instr.add3.first.inst = .add ∧ (Instr.runV 3).first.inst = .run ∧ Instr.copy4M0.first.inst = .copy ∧
      Instr.add3Copy4M0.first = ⟨.add, 3, 0⟩ ∧ Instr.copy4M0Add1.first = ⟨.copy, 4, 0⟩) ∧
    ((std [0x41, 0x42] [] [] 4).dec.running ∧ (std [0x41, 0x42] [] [] 4).dec.win.mode = .standard ∧
      (std [0x41, 0x42] [] [] 4).dec.buffersFit ∧ (std [0x41, 0x42] [] [] 4).dec.decoded.len + 3 ≤ 4 ∧
      (std [0x41, 0x42] [] [] 4).dec.win.lenData - (std [0x41, 0x42] [] [] 4).dec.dpos < 3) ∧
    ((std [] [] [] 4).dec.running ∧ (std [] [] [] 4).dec.win.mode = .standard ∧ (std [] [] [] 4).dec.buffersFit ∧
      (std [] [] [] 4).dec.decoded.len + 4 ≤ 4 ∧ (std [] [] [] 4).dec.win.lenData ≤ (std [] [] [] 4).dec.dpos ∧
      (std [] [] [] 4).dec.cache.decode (std [] [] [] 4).dec.cfg 0 (std [] [] [] 4).dec.here (std [] [] [] 4).dec.addresses.bytes = .eod) :=
  ⟨by decide, ⟨⟨rfl, rfl⟩, rfl, ⟨by decide, by decide⟩, by decide, by decide⟩,
    ⟨⟨rfl, rfl⟩, rfl, ⟨by decide, by decide⟩, by decide, by decide, rfl⟩⟩

/-- Each kind with one byte too few, and a compound opcode of each shape, with a byte outstanding and with none. -/
theorem witness_InterleavedWaits :
    (Instr.add3.first.inst = .add ∧ (Instr.runV 3).first.inst = .run ∧ Instr.copy4M0.first.inst = .copy ∧
      Instr.add3Copy4M0.first = ⟨.add, 3, 0⟩ ∧ Instr.copy4M0Add1.first = ⟨.copy, 4, 0⟩) ∧
    ∀ more ∈ [0, 1],
      ((inter [0x41, 0x42] 0 more 4).dec.failed = none ∧ (inter [0x41, 0x42] 0 more 4).dec.stage = .started ∧
        (inter [0x41, 0x42] 0 more 4).dec.win.mode = .interleaved ∧
        (inter [0x41, 0x42] 0 more 4).dec.literals.lim ≤ (inter [0x41, 0x42] 0 more 4).dec.literals.space.len ∧
        (inter [0x41, 0x42] 0 more 4).dec.addresses.lim ≤ (inter [0x41, 0x42] 0 more 4).dec.addresses.space.len ∧
        (inter [0x41, 0x42] 0 more 4).dec.decoded.len + 3 ≤ (inter [0x41, 0x42] 0 more 4).dec.win.targetLen ∧
        (inter [0x41, 0x42] 0 more 4).dec.iend - (inter [0x41, 0x42] 0 more 4).dec.ipos < 3) ∧
      ((inter [] 0 more 4).dec.failed = none ∧ (inter [] 0 more 4).dec.stage = .started ∧
        (inter [] 0 more 4).dec.win.mode = .interleaved ∧
        (inter [] 0 more 4).dec.literals.lim ≤ (inter [] 0 more 4).dec.literals.space.len ∧
        (inter [] 0 more 4).dec.addresses.lim ≤ (inter [] 0 more 4).dec.addresses.space.len ∧
        (inter [] 0 more 4).dec.decoded.len + 4 ≤ (inter [] 0 more 4).dec.win.targetLen ∧
        (inter [] 0 more 4).dec.iend ≤ (inter [] 0 more 4).dec.ipos ∧
        (inter [] 0 more 4).dec.cache.decode (inter [] 0 more 4).dec.cfg 0 (inter [] 0 more 4).dec.here
          (inter [] 0 more 4).dec.addresses.bytes = .eod) := by decide

/-- The session of `std` under `TARGET_COPY_MODE = refuse`. -/
def refusing (addr : Bytes) : State :=
  { std [] [] addr 4 with dec := { (std [] [] addr 4).dec with cfg := { defaultCfg with targetCopyMode := .refuse } } }

/-- The same session in an interleaved window. -/
def refusingInter (bytes : Bytes) : State :=
  { inter bytes 0 0 4 with dec := { (inter bytes 0 0 4).dec with cfg := { defaultCfg with targetCopyMode := .refuse } } }

/-- `SELF` at `here` (E35); one byte past the segment under `refuse` (E23); for a single and a compound opcode, in both window modes. -/
theorem witness_CopyRefused :
    (Instr.copy4M0.first = ⟨.copy, 4, 0⟩ ∧ Instr.copy4M0Add1.first = ⟨.copy, 4, 0⟩ ∧ Instr.copy4M0Add1.second = some ⟨.add, 1, 0⟩) ∧
    (∀ s ∈ [std [] [] [0x10] 4, inter [0x10] 0 0 4],
      s.dec.failed = none ∧ s.dec.stage = .started ∧ s.dec.decoded.len + 4 ≤ s.dec.win.targetLen ∧
      s.dec.cache.decode s.dec.cfg 0 s.dec.here s.dec.addresses.bytes = .err .invalidAddress) ∧
    (∀ s ∈ [refusing [0x0D], refusingInter [0x0D]],
      s.dec.failed = none ∧ s.dec.stage = .started ∧ s.dec.decoded.len + 4 ≤ s.dec.win.targetLen ∧
      s.dec.cache.decode s.dec.cfg 0 s.dec.here s.dec.addresses.bytes = .ok 13 [] (s.dec.cache.update s.dec.cfg 13) ∧
      s.dec.cfg.targetCopyMode = .refuse ∧ s.dec.win.srcSegLen < 13 + 4) := by
  refine ⟨by decide, ?_, ?_⟩ <;> decide +kernel

theorem witness_ExecAnswersNext : (std [0x41] [] [0x0F] 4).dec.buffersFit ∧ (std [0x41] [] [0x0F] 4).dec.copySpaceFits :=
  ⟨⟨by decide, by decide⟩, (witness_copySpaceFits [0x41] [] [0x0F] [] 0 0 4).1⟩

/-! #### Windows and the machine -/

/-- A parsed window of each mode. -/
theorem witness_BodyStarts :
    (({ (std [] [] [] 0).dec with stage := .parsed } : Decoder).stage = .parsed ∧ (std [] [] [] 0).dec.win.mode = .standard) ∧
    (({ (inter [] 0 4 0).dec with stage := .parsed } : Decoder).stage = .parsed ∧ (inter [] 0 4 0).dec.win.mode = .interleaved) :=
  ⟨⟨rfl, rfl⟩, ⟨rfl, rfl⟩⟩

/-- A body whose target length is reached, with the given checksum register. -/
def reached (s : State) (hasChecksum : Bool) (checksum : Nat) : State :=
  { s with dec := { s.dec with
      decoded := Memory.ofBytes [0x41, 0x42, 0x43], win := { s.dec.win with targetLen := 3, hasChecksum := hasChecksum, checksum := checksum } } }

/-- The same body run by a `DECODE_CALL`. -/
def called (s : State) : State :=
  { s with dec := { s.dec with call := some (.decodeCall 0), phase := .body } }

/-- Leftover bytes in each mode; then, with none, a wrong checksum, a right one, and none, under `BD_RUN` and under `DECODE_CALL`. -/
theorem witness_WindowCompletes :
    ((std [] [] [0x00] 3).dec.call = some .bdRun ∧ (reached (std [] [] [0x00] 3) false 0).dec.stage = .started ∧
      (reached (std [] [] [0x00] 3) false 0).dec.win.targetLen ≤ (reached (std [] [] [0x00] 3) false 0).dec.decoded.len ∧
      (reached (std [] [] [0x00] 3) false 0).dec.apos ≠ (reached (std [] [] [0x00] 3) false 0).dec.win.lenAddr) ∧
    ((reached (inter [] 0 1 3) false 0).dec.call = some .bdStep ∧ (reached (inter [] 0 1 3) false 0).dec.remaining ≠ 0) ∧
    (∀ s ∈ [reached (std [] [] [] 3) true 0x018D00C8, reached (std [] [] [] 3) true 0x018D00C7, reached (std [] [] [] 3) false 0],
      s.dec.call = some .bdRun ∧ s.dec.stage = .started ∧ s.dec.win.targetLen ≤ s.dec.decoded.len ∧ s.dec.ipos = s.dec.iend ∧
      s.dec.pendingSecond = none ∧ s.dec.dpos = s.dec.win.lenData ∧ s.dec.apos = s.dec.win.lenAddr) ∧
    (adler32 [0x41, 0x42, 0x43] ≠ 0x018D00C8 ∧ adler32 [0x41, 0x42, 0x43] = 0x018D00C7) ∧
    ((reached (inter [] 0 0 3) false 0).dec.remaining = 0 ∧ (reached (inter [] 0 0 3) false 0).dec.ipos = (reached (inter [] 0 0 3) false 0).dec.iend) ∧
    ((called (reached (std [] [] [] 3) false 0)).dec.call = some (.decodeCall 0) ∧ (called (reached (std [] [] [] 3) false 0)).dec.phase = .body ∧
      (called (reached (std [] [] [] 3) false 0)).dec.stage = .started ∧
      (called (reached (std [] [] [] 3) false 0)).dec.win.targetLen ≤ (called (reached (std [] [] [] 3) false 0)).dec.decoded.len ∧
      (called (reached (std [] [] [] 3) false 0)).dec.hasExcess = false) := by
  decide

/-- The lowest and the highest bit. -/
theorem witness_AdlerSeesOneBit :
    (0 < 8 ∧ (0x42 : Byte) ^^^ 0x43 = BitVec.ofNat 8 (2 ^ 0)) ∧ (7 < 8 ∧ (0x42 : Byte) ^^^ 0xC2 = BitVec.ofNat 8 (2 ^ 7)) := by decide

theorem witness_ConfigurationCheck :
    (issued [.newEncoder defaultCfg []]).dec.call = none ∧ (issued [.newEncoder defaultCfg []]).ops = [.newEncoder defaultCfg []] ∧
    checkEncodeCfg defaultCfg = none ∧ checkEncodeCfg { defaultCfg with minMatch := 31 } = some .cfgMinMatch :=
  ⟨rfl, rfl, test_default_configuration.1, by decide⟩

/-- A machine with both sessions failed. -/
def failed (ops : List HostOp) : State :=
  { State.reset with enc := { State.reset.enc with failed := some .encRange }, dec := { State.reset.dec with failed := some .badMagic }, ops := ops }

/-- An operation of each side, and a call. -/
theorem witness_FailedSessionAnswers :
    (∀ o ∈ [HostOp.imBuild, .wdParse, .decodeCall [0x00]], (failed [o]).dec.call = none ∧ (failed [o]).ops = [o] ∧ o.creates = false ∧
      (failed [o]).failedOf o.side ≠ none) ∧
    (∀ bytes, HostOp.wdParse ≠ .decodeCall bytes) :=
  ⟨by decide, fun _ h => by cases h⟩

/-- A failed session of each side while an operation of the other is executed. -/
theorem witness_LatchIsSticky :
    (∃ t, step (failed [.newEncoder defaultCfg []]) = .next t) ∧ (failed [.newEncoder defaultCfg []]).failedOf .decode = some .badMagic ∧
    ¬ (failed [.newEncoder defaultCfg []]).creating .decode ∧
    (∃ t, step (failed [.wdParse]) = .next t) ∧ (failed [.wdParse]).failedOf .encode = some .encRange ∧
    ¬ (failed [.wdParse]).creating .encode := by
  refine ⟨⟨_, rfl⟩, rfl, ?_, ⟨_, rfl⟩, rfl, ?_⟩
  · rintro ⟨_, o, rest, h, _, hs⟩
    cases h
    cases hs
  · rintro ⟨_, o, rest, h, hc, _⟩
    cases h
    cases hc

/-- An idle machine, and one that reports an error. -/
theorem witness_ErrorSetsLatch :
    (∃ t, step (issued [.wdParse]) = .next t ∧ t.last = some (.error .seqOrder)) ∧ (issued [.wdParse]).last = none ∧
    Reply.isError (.error .seqOrder) = true :=
  ⟨⟨_, rfl, rfl⟩, rfl, rfl⟩

/-- The step that commits a window. -/
theorem witness_CommitOnlyWhenChecked :
    (∃ t, step (reached (std [] [] [] 3) true 0x018D00C7) = .next t ∧ t.dec.tgtOut.bytes = [0x41, 0x42, 0x43]) ∧
    (reached (std [] [] [] 3) true 0x018D00C7).dec.tgtOut.bytes = [] ∧ ¬ (reached (std [] [] [] 3) true 0x018D00C7).creating .decode := by
  refine ⟨⟨_, rfl, by decide⟩, rfl, ?_⟩
  rintro ⟨h, _⟩
  cases h

/-- A session after `WS_INIT` with its header operation issued. -/
def heading : State :=
  { issued [.wsStreamHeader] with enc := { enc0 defaultCfg with hashReady := true } }

theorem witness_DeltaOutOnlyGrows :
    (∃ t, step heading = .next t ∧ t.enc.deltaOut.bytes = [0xD6, 0xC3, 0xC4, 0x00, 0x00]) ∧
    ¬ heading.creating .encode := by
  refine ⟨⟨_, rfl, by decide⟩, ?_⟩
  rintro ⟨_, o, rest, h, hc, _⟩
  cases h
  cases hc

/-- An operation of each side, and a decode operation in progress. -/
theorem witness_SessionsAreDisjoint :
    (∃ t, step (issued [.wsStreamHeader]) = .next t) ∧ (issued [.wsStreamHeader]).dec.call = none ∧ HostOp.wsStreamHeader.side = .encode ∧
    (∃ t, step (issued [.wdParse]) = .next t) ∧ (issued [.wdParse]).dec.call = none ∧ HostOp.wdParse.side = .decode ∧
    (∃ t, step (std [0x41, 0x42, 0x43] [0x04] [] 3) = .next t) ∧ (std [0x41, 0x42, 0x43] [0x04] [] 3).dec.call ≠ none :=
  ⟨⟨_, rfl⟩, rfl, rfl, ⟨_, rfl⟩, rfl, rfl, ⟨_, rfl⟩, by decide⟩

theorem witness_ConfigAndDictConstant :
    (∃ t, step (issued [.wsStreamHeader]) = .next t) ∧ ¬ (issued [.wsStreamHeader]).creating .encode ∧
    ¬ (issued [.wsStreamHeader]).creating .decode := by
  refine ⟨⟨_, rfl⟩, ?_, ?_⟩ <;>
  · rintro ⟨_, o, rest, h, hc, _⟩
    cases h
    cases hc

/-- Every operation of the statement, on the machine right after reset; then the orders a later state breaks. -/
theorem witness_OutOfOrderIsRefused :
    (∀ o ∈ [HostOp.wdParse, .bdStart, .bdRun, .bdStep, .idNext, .rhRoll 0 0x61 0x62, .bhBuild, .bhFind 0 0 0 16, .imEncode .add 1 0,
        .wsAdd [0x41], .wsRun 1 0x41, .wsCopy 0 1, .wsInit 16, .wsStreamHeader, .wsOutput none, .cpParse [], .sdHeader],
      (issued [o]).dec.call = none ∧ (issued [o]).ops = [o] ∧ (issued [o]).failedOf o.side = none) ∧
    ((issued []).dec.streamVersion = none ∧ (issued []).dec.stage ≠ .parsed ∧ (issued []).dec.stage ≠ .started ∧
      (issued []).enc.hashReady = false ∧ (issued []).enc.index.built = false ∧ (issued []).enc.map.built = false ∧
      (issued []).enc.ws.ready = false ∧ (issued []).enc.headerDone = false ∧ (issued []).enc.parseReady = false) ∧
    (headed.headerDone = true ∧ (parsing []).streamVersion ≠ none) ∧
    ((std [] [] [] 1).dec.win.mode ≠ .interleaved ∧ (inter [] 0 0 1).dec.win.mode ≠ .standard) := by decide +kernel

theorem witness_StepKeepsMemoryWf :
    (std [0x41, 0x42, 0x43] [0x04] [] 3).memoryWf ∧ ∃ t, step (std [0x41, 0x42, 0x43] [0x04] [] 3) = .next t :=
  ⟨⟨⟨rfl, rfl, rfl, rfl, rfl, rfl⟩, ⟨rfl, rfl, rfl, rfl, rfl, rfl, rfl, rfl⟩⟩, ⟨_, rfl⟩⟩

/-- A session in the middle of an interleaved body with an instruction waiting is sound. -/
theorem witness_StepKeepsSound :
    (∃ s : State, s.sound ∧ s.dec.stage = .started ∧ s.dec.pendingInst ≠ none ∧ ∃ t, step s = .next t) := by
  refine ⟨{ inter [0x04, 0x41] 1 1 3 with dec := { (inter [0x04, 0x41] 1 1 3).dec with pendingInst := some ⟨.add, 3, 0⟩ } },
    ⟨?_, ?_⟩, rfl, by simp, ⟨_, rfl⟩⟩
  · intro _
    refine ⟨⟨rfl, List.length_replicate, by decide⟩, ?_, Nat.zero_le _, Nat.zero_le _⟩
    intro _ h
    cases h
  · intro _
    refine ⟨⟨rfl, List.length_replicate, by decide⟩, ⟨?_, ?_, ?_⟩, rfl⟩
    · decide
    · decide
    · intro _ _ t h
      cases h
      decide

end Sys2Proof.Tests
end

section
/-! PROOFS, family 00_scope.md. The configuration check of an encode session and the answer of its creation (spec/00_scope.md R9; spec/60_exceptions.md R252). -/

namespace Sys2Proof.Machine

/-- R252's bounds on the sizes of the address cache. -/
theorem cacheSizesValid_iff (cfg : Cfg) :
    cacheSizesValid cfg = true ↔
      1 ≤ cfg.nearSize ∧ cfg.nearSize ≤ 255 ∧ 1 ≤ cfg.sameSize ∧ cfg.sameSize ≤ 255 ∧ 2 + cfg.nearSize + cfg.sameSize ≤ 256 := by
  simp [cacheSizesValid]

/-- The check passes when none of its guards, taken in R252's order, holds. -/
theorem checkEncodeCfg_eq_none_iff (cfg : Cfg) :
    checkEncodeCfg cfg = none ↔
      cfg.blockSize ≠ 0 ∧ ¬ cfg.minMatch < 2 * cfg.blockSize ∧ cacheSizesValid cfg = true ∧
        ¬ (cfg.checksumFormat = .xdelta3 ∧ cfg.interleaved = true) ∧
        ¬ (cfg.maxMatches = 0 ∨ 32 < cfg.maxMatches ∨ cfg.bufferChunkSize = 0 ∨ cfg.hashMult = 0) ∧
        codeTableValid cfg = true := by
  simp only [checkEncodeCfg, ite_eq_iff, reduceCtorEq, and_false, false_or, and_true, Bool.not_eq_false, ne_eq]

/-- R252: the check refuses with one of the `CFGERR` causes, those of codes 1 to 7, so the creation answers `CFGERR` with it. -/
theorem creationReply_of_checkEncodeCfg {cfg : Cfg} {c : Cause} (h : checkEncodeCfg cfg = some c) :
    creationReply (checkEncodeCfg cfg) = .cfgErr c := by
  rw [h]
  unfold checkEncodeCfg at h
  split_ifs at h <;> cases h <;> rfl

/-- The creation of an encode session is executed whatever the session before it holds (R259). -/
theorem step_newEncoder {s : State} {cfg : Cfg} {dict : Bytes} {rest : List HostOp} (hc : s.dec.call = none)
    (ho : s.ops = .newEncoder cfg dict :: rest) :
    step s = .next (State.newEncoder { s with ops := rest } cfg dict) := by
  rw [step_op hc ho, State.perform_creates rfl]
  rfl

/-- Settles O48: the creation always makes the session, and each guard of its check is the negation of one of the constraints. -/
theorem configurationCheck : Obligations.ConfigurationCheck := by
  intro s cfg dict rest hc ho
  refine ⟨?_, _, step_newEncoder hc ho, rfl, fun h => ?_, fun c h => ?_⟩
  · rw [checkEncodeCfg_eq_none_iff, cacheSizesValid_iff]
    constructor
    · rintro ⟨hblock, hmin, ⟨hnear, hnear', hsame, hsame', hmodes⟩, hpair, hparam, htable⟩
      exact ⟨by omega, hnear, hnear', hsame, hsame', hpair, by omega, hmodes, by omega, by omega, by omega, by omega, htable⟩
    · rintro ⟨hmin, hnear, hnear', hsame, hsame', hpair, hblock, hmodes, hmatches, hmatches', hchunk, hmult, htable⟩
      exact ⟨by omega, by omega, ⟨hnear, hnear', hsame, hsame', hmodes⟩, hpair, by omega, htable⟩
  · simp [State.newEncoder, h, creationReply]
  · exact congrArg some (creationReply_of_checkEncodeCfg h)

end Sys2Proof.Machine
end

section
/-! PROOFS, family 10_state.md. What a step keeps of the two sessions (spec/10_state.md R20 to R30), and what each kind of instruction leaves unchanged (R21; spec/49_body_decoder.md R228 to R231). -/

namespace Sys2Proof.Machine

/-! ### Sound sessions (R21, R22, R214, R232) -/

/-- A configuration that passes the check of an encode session has a near slot. -/
theorem nearSize_pos_of_checkEncodeCfg {cfg : Cfg} (h : checkEncodeCfg cfg = none) : 1 ≤ cfg.nearSize := by
  obtain ⟨-, -, hsizes, -⟩ := (checkEncodeCfg_eq_none_iff cfg).mp h
  exact ((cacheSizesValid_iff cfg).mp hsizes).1

/-- A configuration that passes the check of a decode session has a near slot. -/
theorem nearSize_pos_of_checkDecodeCfg {cfg : Cfg} (h : checkDecodeCfg cfg = none) : 1 ≤ cfg.nearSize := by
  unfold checkDecodeCfg at h
  split_ifs at h with hsizes
  exact ((cacheSizesValid_iff cfg).mp (Bool.eq_true_of_not_eq_false hsizes)).1

theorem Encoder.sound_reset {cfg : Cfg} (h : 1 ≤ cfg.nearSize) (dict : Memory) : (Encoder.reset cfg dict).sound :=
  ⟨AddrCache.wf_reset h, nofun, Nat.zero_le _, Nat.zero_le _⟩

theorem Decoder.sound_reset {cfg : Cfg} (h : 1 ≤ cfg.nearSize) (dict : Memory) : (Decoder.reset cfg dict).sound := by
  refine ⟨AddrCache.wf_reset h, ⟨fun hs => absurd rfl hs, ?_, ?_⟩, rfl⟩ <;> (intro hs; cases hs)

theorem State.EncodeMoved.sound {s t : State} (hm : s.EncodeMoved t) (hs : s.sound) : t.sound := by
  obtain ⟨e, failed, hkept, henc, hfailed⟩ := hm.enc
  refine ⟨fun ht => ?_, by rw [hm.dec]; exact hs.2⟩
  rw [henc] at ht ⊢
  rcases hfailed with hlatch | ⟨c, hlatch⟩ <;> rw [hlatch] at ht
  · exact hkept.sound (hs.1 ht)
  · cases ht

theorem State.DecodeMoved.sound {s t : State} (hm : s.DecodeMoved t) (hs : s.sound) : t.sound := by
  obtain ⟨d, failed, call, hkept, hdec, hfailed⟩ := hm.dec
  refine ⟨by rw [hm.enc]; exact hs.1, fun ht => ?_⟩
  rw [hdec] at ht ⊢
  rcases hfailed with hlatch | ⟨c, hlatch⟩ <;> rw [hlatch] at ht
  · exact hkept.sound (hs.2 ht)
  · cases ht

/-- The commit closes the window, so only the cache and `written` remain to be in step with what is held. -/
theorem State.Committed.sound {s t : State} (hm : s.Committed t) (hs : s.sound) : t.sound := by
  obtain ⟨call, phase, hdec⟩ := hm.dec
  refine ⟨by rw [hm.enc]; exact hs.1, fun ht => ?_⟩
  rw [hdec] at ht ⊢
  obtain ⟨hcache, -, hwritten⟩ := hs.2 ht
  refine ⟨hcache, ⟨fun h => absurd rfl h, ?_, ?_⟩, by simp [hwritten]⟩ <;> (intro h; cases h)

theorem State.newEncoder_sound {s : State} (hs : s.sound) (cfg : Cfg) (dict : Bytes) : (s.newEncoder cfg dict).sound :=
  ⟨fun hc => Encoder.sound_reset (nearSize_pos_of_checkEncodeCfg hc) (Memory.ofBytes dict), hs.2⟩

theorem State.newDecoder_sound {s : State} (hs : s.sound) (cfg : Cfg) (dict : Bytes) : (s.newDecoder cfg dict).sound :=
  ⟨hs.1, fun hc => Decoder.sound_reset (nearSize_pos_of_checkDecodeCfg hc) (Memory.ofBytes dict)⟩

/-- Settles O60, by the effects a step can have: each keeps the sessions that have not failed sound. -/
theorem stepKeepsSound : Obligations.StepKeepsSound := by
  intro s t hs h
  rcases step_effects h with rfl | ⟨-, o, rest, -, -, ⟨-, hm⟩ | ⟨-, hm⟩⟩ | ⟨-, rest, cfg, dict, -, rfl⟩ |
    ⟨-, rest, cfg, dict, -, rfl⟩ | ⟨-, hm | hm⟩
  · exact hs
  · exact hm.sound hs
  · exact hm.sound hs
  · exact State.newEncoder_sound hs cfg dict
  · exact State.newDecoder_sound hs cfg dict
  · exact hm.sound hs
  · exact hm.sound hs

/-! ### The frame of an instruction (R21) -/

/-- From `d` to `d1` at most `n` bytes were appended to `decoded`, and of the registers only those moved that an instruction may move in the window's mode. -/
structure Decoder.FramedBy (d : Decoder) (n : Nat) (d1 : Decoder) : Prop where
  frame       : d.frameOf d1
  failed      : d1.failed = d.failed
  call        : d1.call = d.call
  standard    : d.win.mode = .standard → d1.ipos = d.ipos ∧ d1.pendingInst = d.pendingInst
  interleaved : d.win.mode = .interleaved → d1.dpos = d.dpos ∧ d1.apos = d.apos
  grows       : d.decoded.len ≤ d1.decoded.len ∧ d1.decoded.len ≤ d.decoded.len + n
  outside     : ∀ a, (a < d.decoded.len ∨ d.decoded.len + n ≤ a) → d1.decoded.read a = d.decoded.read a

theorem Decoder.frameOf_refl (d : Decoder) : d.frameOf d := by
  simp [Decoder.frameOf]

theorem Decoder.frameOf_trans {d d1 d2 : Decoder} (h : d.frameOf d1) (h1 : d1.frameOf d2) : d.frameOf d2 := by
  simp_all [Decoder.frameOf]

theorem Decoder.FramedBy.win {d d1 : Decoder} {n : Nat} (h : d.FramedBy n d1) : d1.win = d.win := by
  obtain ⟨-, -, -, -, -, -, -, -, -, -, hwin, -⟩ := h.frame
  exact hwin

theorem Decoder.FramedBy.refl (d : Decoder) (n : Nat) : d.FramedBy n d :=
  ⟨d.frameOf_refl, rfl, rfl, fun _ => ⟨rfl, rfl⟩, fun _ => ⟨rfl, rfl⟩, ⟨le_rfl, Nat.le_add_right _ _⟩, fun _ _ => rfl⟩

theorem Decoder.FramedBy.trans {d d1 d2 : Decoder} {n m : Nat} (h : d.FramedBy n d1) (h1 : d1.FramedBy m d2) :
    d.FramedBy (n + m) d2 where
  frame := Decoder.frameOf_trans h.frame h1.frame
  failed := h1.failed.trans h.failed
  call := h1.call.trans h.call
  standard hm :=
    have h1 := h1.standard (h.win ▸ hm)
    ⟨h1.1.trans (h.standard hm).1, h1.2.trans (h.standard hm).2⟩
  interleaved hm :=
    have h1 := h1.interleaved (h.win ▸ hm)
    ⟨h1.1.trans (h.interleaved hm).1, h1.2.trans (h.interleaved hm).2⟩
  grows := by have := h.grows; have := h1.grows; omega
  outside a ha := by
    have := h.grows
    rw [h1.outside a (by omega), h.outside a (by omega)]

/-- `pendingSecond` is no part of what `FramedBy` compares. -/
theorem Decoder.FramedBy.setPending {d d1 : Decoder} {n : Nat} (p q : Option Byte)
    (h : d.FramedBy n d1) : Decoder.FramedBy { d with pendingSecond := p } n { d1 with pendingSecond := q } :=
  ⟨h.frame, h.failed, h.call, h.standard, h.interleaved, h.grows, h.outside⟩

/-- What one delivered instruction leaves: its frame, `pendingSecond`, and what its type leaves besides. -/
structure Decoder.Issued (d : Decoder) (t : Triple) (d1 : Decoder) : Prop where
  framed        : d.FramedBy t.size d1
  pendingSecond : d1.pendingSecond = d.pendingSecond
  notCopy       : t.inst ≠ .copy → d1.cache = d.cache ∧ d1.apos = d.apos
  copy          : t.inst = .copy → d1.dpos = d.dpos

theorem Decoder.Issued.refl (d : Decoder) (t : Triple) : d.Issued t d :=
  ⟨.refl d t.size, rfl, fun _ => ⟨rfl, rfl⟩, fun _ => rfl⟩

/-- A session that `Moves` describes, with at most `t.size` bytes appended and `pendingInst` moved in an interleaved window only, is in the frame of `t`. -/
theorem Decoder.Moves.issued {d : Decoder} {t : Triple} {dpos apos ipos : Nat} {cache : AddrCache} {bs : Bytes}
    {p : Option Triple} (hm : d.Moves t dpos apos ipos cache) (hl : bs.length ≤ t.size)
    (hp : d.win.mode = .standard → p = d.pendingInst) :
    d.Issued t { d with decoded := d.decoded.append bs, dpos := dpos, apos := apos, ipos := ipos, cache := cache,
                        pendingInst := p } where
  framed :=
    { frame := d.frameOf_refl
      failed := rfl
      call := rfl
      standard := fun hw => ⟨hm.standard hw, hp hw⟩
      interleaved := hm.interleaved
      grows := by simp only [Memory.append_len]; omega
      outside := fun a ha => Memory.append_read_outside _ _ a (by omega) }
  pendingSecond := rfl
  notCopy := hm.notCopy
  copy := hm.copy

theorem Decoder.issue_issued (d : Decoder) (t : Triple) : (d.issue t).leaves (d.Issued t) := by
  rcases d.issue_cases t with ⟨bs, dpos, apos, ipos, cache, h, hm, -, hl, -⟩ | ⟨hw, -, -, h⟩ |
    ⟨c, apos, ipos, cache, p, h, hm, hp⟩ | ⟨f, h⟩ <;> rw [h]
  · exact hm.issued hl fun hw => if_pos hw
  · have := (Decoder.Moves.none d t).issued (bs := []) (p := some t) (Nat.zero_le _) (by simp [hw])
    simpa [Act.leaves] using this
  · have := hm.issued (bs := []) (p := p) (Nat.zero_le _) fun hw => by
      rcases hp with rfl | ⟨hi, -⟩
      · rfl
      · simp [hw] at hi
    simpa [Act.leaves] using this
  · trivial

/-- An instruction that waits is recorded as waiting (R235). -/
theorem Decoder.issue_eod_waiting {d d1 : Decoder} {t : Triple} (h : d.issue t = .eod d1) : d1.waiting ≠ none := by
  rcases d.issue_cases t with ⟨_, _, _, _, _, e, -⟩ | ⟨hw, -, -, e⟩ | ⟨_, _, _, _, _, e, -⟩ | ⟨_, e⟩ <;> rw [e] at h <;> cases h
  simp [Decoder.waiting, hw]

/-- What the two halves of a compound opcode `op` leave (R231). -/
structure Decoder.PairIssued (d : Decoder) (op : Byte) (n : Nat) (d1 : Decoder) : Prop where
  framed        : d.FramedBy n d1
  pendingSecond : d1.pendingSecond = d.pendingSecond ∨ d1.pendingSecond = none ∨ d1.pendingSecond = some op

theorem Decoder.issuePair_issued (d : Decoder) (op : Byte) (t u : Triple) :
    (d.issuePair op t u).leaves (d.PairIssued op (t.size + u.size)) := by
  have first : (Decoder.issue { d with pendingSecond := some op } t).leaves
      fun d1 => d.FramedBy t.size d1 ∧ d1.pendingSecond = some op :=
    Act.leaves_imp (Decoder.issue_issued _ t) fun d1 h =>
      ⟨h.framed.setPending d.pendingSecond d1.pendingSecond, h.pendingSecond⟩
  have widen : ∀ {d1 : Decoder}, d.FramedBy t.size d1 → d.FramedBy (t.size + u.size) d1 := fun h => h.trans (.refl _ _)
  refine Act.leaves_bind (Act.leaves_imp first fun d1 ⟨h, hp⟩ => ⟨widen h, .inr (.inr hp)⟩) fun d1 _ h1 hpair => ?_
  split
  · exact hpair
  · rw [h1] at first
    refine Act.leaves_imp (Decoder.issue_issued _ u) fun d2 h2 => ⟨first.1.trans ?_, .inr (.inl h2.pendingSecond)⟩
    exact h2.framed.setPending d1.pendingSecond d2.pendingSecond

theorem Decoder.issuePair_eod_waiting {d d1 : Decoder} {op : Byte} {t u : Triple} (h : d.issuePair op t u = .eod d1) :
    d1.waiting ≠ none := by
  rcases Act.bind_eq_eod.mp h with h | ⟨d2, _, -, h⟩
  · exact Decoder.issue_eod_waiting h
  · split at h
    · cases h
    · exact Decoder.issue_eod_waiting h

/-- The machine around an instruction: nothing but the decode session moves, and of what is no part of the meaning `P` only the latch, the operation in progress and the last outcome, these on an error or a wait. -/
structure State.Framed (s : State) (P : Decoder → Prop) (t : State) : Prop where
  enc   : t.enc = s.enc
  ops   : t.ops = s.ops
  dec   : ∃ d failed call, P d ∧ t.dec = { d with failed := failed, call := call }
  quiet : t.dec.failed = s.dec.failed → t.dec.waiting = none → t.dec.call = s.dec.call ∧ t.last = s.last

/-- An error sets the latch of a session that had not failed. -/
theorem State.raiseDecode_framed {s : State} {d : Decoder} {P : Decoder → Prop} (hf : s.dec.failed = none) (hd : P d)
    (c : Cause) : s.Framed P (State.raiseDecode { s with dec := d } c) := by
  refine ⟨rfl, rfl, ⟨d, _, _, hd, rfl⟩, fun h => ?_⟩
  rw [hf] at h
  cases h

theorem State.inBody_framed {s t : State} {k : Decoder → Act Decoder Unit} {P : Decoder → Prop} (hself : P s.dec)
    (hk : (k s.dec).leaves P) (hcall : ∀ d, P d → d.call = s.dec.call) (hwait : ∀ d, k s.dec = .eod d → d.waiting ≠ none)
    (h : s.inBody k = .next t) : s.Framed P t := by
  cases hf : s.dec.failed with
  | some c =>
    rw [State.inBody_failed hf] at h
    cases h
    exact ⟨rfl, rfl, ⟨s.dec, s.dec.failed, s.dec.call, hself, rfl⟩, fun _ _ => ⟨rfl, rfl⟩⟩
  | none =>
    by_cases hst : s.dec.stage = .started
    · rw [State.inBody_running hf hst] at h
      rcases State.settle_next.mp h with ⟨d, e, rfl⟩ | ⟨d, e, rfl⟩ | ⟨d, c, e, rfl⟩ <;> rw [e] at hk
      · exact ⟨rfl, rfl, ⟨d, d.failed, d.call, hk, rfl⟩, fun _ _ => ⟨hcall d hk, rfl⟩⟩
      · exact ⟨rfl, rfl, ⟨d, d.failed, none, hk, rfl⟩, fun _ hw => absurd hw (hwait d e)⟩
      · exact State.raiseDecode_framed hf hk c
    · rw [State.inBody_outside hf hst] at h
      cases h
      exact State.raiseDecode_framed hf hself .seqOrder

theorem exec_single_framed {i : Instr} {s t : State} (hi : i.second = none) (h : exec i s = .next t) :
    s.Framed (s.dec.Issued i.first) t := by
  rw [exec_single hi] at h
  exact State.inBody_framed (.refl _ _) (Decoder.issue_issued _ _) (fun _ hd => hd.framed.call)
    (fun _ he => Decoder.issue_eod_waiting he) h

theorem exec_pair_framed {i : Instr} {u : Triple} {s t : State} (hi : i.second = some u) (h : exec i s = .next t) :
    s.Framed (s.dec.PairIssued (BitVec.ofNat 8 i.opcode) (i.first.size + u.size)) t := by
  rw [exec_pair hi] at h
  exact State.inBody_framed ⟨.refl _ _, .inl rfl⟩ (Decoder.issuePair_issued _ _ _ _) (fun _ hd => hd.framed.call)
    (fun _ he => Decoder.issuePair_eod_waiting he) h

/-- Settles O37: the frame of a delivered instruction that is no `COPY`. -/
theorem addRunFrame : Obligations.AddRunFrame := by
  intro i s t hi hinst h
  obtain ⟨henc, hops, ⟨d, failed, call, hd, hdec⟩, hquiet⟩ := exec_single_framed hi h
  refine ⟨henc, hops, ?_, ?_, ?_, ?_, ?_, ?_, hquiet, ?_⟩ <;> rw [hdec]
  · exact hd.framed.frame
  · exact (hd.notCopy hinst).1
  · exact (hd.notCopy hinst).2
  · exact hd.pendingSecond
  · exact hd.framed.standard
  · exact fun hm => (hd.framed.interleaved hm).1
  · exact hd.framed.outside

/-- Settles O38: the frame of a delivered `COPY`. -/
theorem copyFrame : Obligations.CopyFrame := by
  intro i s t hi hinst h
  obtain ⟨henc, hops, ⟨d, failed, call, hd, hdec⟩, hquiet⟩ := exec_single_framed hi h
  refine ⟨henc, hops, ?_, ?_, ?_, ?_, ?_, hquiet, ?_⟩ <;> rw [hdec]
  · exact hd.framed.frame
  · exact hd.copy hinst
  · exact hd.pendingSecond
  · exact hd.framed.standard
  · exact fun hm => (hd.framed.interleaved hm).2
  · exact hd.framed.outside

/-- Settles O39: the frames of the two halves, one after the other. -/
theorem compoundFrame : Obligations.CompoundFrame := by
  intro i u s t hi h
  obtain ⟨henc, hops, ⟨d, failed, call, hd, hdec⟩, hquiet⟩ := exec_pair_framed hi h
  refine ⟨henc, hops, ?_, ?_, ?_, ?_, hquiet, ?_⟩ <;> rw [hdec]
  · exact hd.framed.frame
  · exact hd.pendingSecond
  · exact hd.framed.standard
  · exact hd.framed.interleaved
  · intro a ha
    exact hd.framed.outside a (by omega)

/-! ### The two sessions (R20, R26, R57, R261) -/

/-- An operation of the host takes nothing from the queue behind it and moves the session of its side only. -/
theorem State.perform_disjoint {s t : State} {o : HostOp} (h : s.perform o = .next t) :
    t.ops = s.ops ∧ (o.side = .encode → t.dec = s.dec) ∧ (o.side = .decode → t.enc = s.enc) := by
  cases hc : o.creates with
  | false =>
    rcases State.perform_cases hc h with ⟨hs, hm⟩ | ⟨hs, hm⟩
    · exact ⟨hm.ops, fun _ => hm.dec, fun hd => by simp [hs] at hd⟩
    · exact ⟨hm.ops, fun he => by simp [hs] at he, fun _ => hm.enc⟩
  | true =>
    rcases State.perform_creates_cases hc h with ⟨cfg, dict, rfl, rfl⟩ | ⟨cfg, dict, rfl, rfl⟩
    · exact ⟨rfl, fun _ => rfl, nofun⟩
    · exact ⟨rfl, nofun, fun _ => rfl⟩

theorem State.advance_disjoint {s t : State} {c : Call} (h : s.advance c = .next t) : t.enc = s.enc ∧ t.ops = s.ops := by
  rcases State.advance_cases h with hm | hm <;> exact ⟨hm.enc, hm.ops⟩

/-- Settles O54, by the kind of step: idle, an operation of the host, a piece of a decode operation. -/
theorem sessionsAreDisjoint : Obligations.SessionsAreDisjoint := by
  intro s t h
  rcases step_cases h with ⟨hcall, hops, -⟩ | ⟨o, rest, hcall, hops, hp⟩ | ⟨c, hcall, ha⟩
  · exact ⟨fun o rest _ ho => by simp [hops] at ho, fun hne => absurd hcall hne⟩
  · refine ⟨fun o' rest' _ ho => ?_, fun hne => absurd hcall hne⟩
    obtain ⟨rfl, rfl⟩ := List.cons.inj (hops.symm.trans ho)
    exact State.perform_disjoint hp
  · exact ⟨fun o rest hnone _ => by simp [hcall] at hnone, fun _ => State.advance_disjoint ha⟩

/-- Both sessions keep their configuration and their dictionary. -/
structure State.SameConstants (s t : State) : Prop where
  enc : t.enc.cfg = s.enc.cfg ∧ t.enc.dict = s.enc.dict
  dec : t.dec.cfg = s.dec.cfg ∧ t.dec.dict = s.dec.dict

theorem State.EncodeMoved.sameConstants {s t : State} (hm : s.EncodeMoved t) : s.SameConstants t := by
  obtain ⟨e, failed, hkept, henc, -⟩ := hm.enc
  exact ⟨by rw [henc]; exact ⟨hkept.cfg, hkept.dict⟩, by simp [hm.dec]⟩

theorem State.DecodeMoved.sameConstants {s t : State} (hm : s.DecodeMoved t) : s.SameConstants t := by
  obtain ⟨d, failed, call, hkept, hdec, -⟩ := hm.dec
  exact ⟨by simp [hm.enc], by rw [hdec]; exact ⟨hkept.cfg, hkept.dict⟩⟩

theorem State.Committed.sameConstants {s t : State} (hm : s.Committed t) : s.SameConstants t := by
  obtain ⟨call, phase, hdec⟩ := hm.dec
  exact ⟨by simp [hm.enc], by simp [hdec]⟩

/-- Settles O55: of the effects a step can have, only a creation writes a configuration or a dictionary, and it is one of that side. -/
theorem configAndDictConstant : Obligations.ConfigAndDictConstant := by
  intro s t h
  have kept : s.SameConstants t →
      (¬ s.creating .encode → t.enc.cfg = s.enc.cfg ∧ t.enc.dict = s.enc.dict) ∧
        (¬ s.creating .decode → t.dec.cfg = s.dec.cfg ∧ t.dec.dict = s.dec.dict) :=
    fun hc => ⟨fun _ => hc.enc, fun _ => hc.dec⟩
  rcases step_effects h with rfl | ⟨-, o, rest, -, -, ⟨-, hm⟩ | ⟨-, hm⟩⟩ | ⟨hcall, rest, cfg, dict, hops, rfl⟩ |
    ⟨hcall, rest, cfg, dict, hops, rfl⟩ | ⟨-, hm | hm⟩
  · exact kept ⟨⟨rfl, rfl⟩, rfl, rfl⟩
  · exact kept ⟨hm.sameConstants.enc, hm.sameConstants.dec⟩
  · exact kept ⟨hm.sameConstants.enc, hm.sameConstants.dec⟩
  · exact ⟨fun hn => absurd ⟨hcall, _, rest, hops, rfl, rfl⟩ hn, fun _ => ⟨rfl, rfl⟩⟩
  · exact ⟨fun _ => ⟨rfl, rfl⟩, fun hn => absurd ⟨hcall, _, rest, hops, rfl, rfl⟩ hn⟩
  · exact kept hm.sameConstants
  · exact kept hm.sameConstants

/-! ### Resets (R30, R226, R280) -/

/-- Settles O45: after a parsed header the order condition of `BD_START` holds, and each window mode has its own `ID_INIT`. -/
theorem bodyStarts : Obligations.BodyStarts := by
  intro d hs
  refine ⟨fun hm => ?_, fun hm => ?_⟩ <;> simp [Decoder.bdStart, Decoder.idInit, acReset, hs, hm]

/-- With nothing issued and nothing in progress a step is idle. -/
theorem step_idle {s : State} (hc : s.dec.call = none) (ho : s.ops = []) : step s = .next s := by
  simp [step, State.stepOnce, hc, ho]

/-- Settles O57: R30's table row by row, and the idle machine. -/
theorem resetValues : Obligations.ResetValues := by
  refine ⟨fun cfg dict => ?_, rfl, rfl, step_idle rfl rfl⟩
  simp [Encoder.reset, Decoder.reset, AddrCache.reset]

end Sys2Proof.Machine
end

section
/-! PROOFS, family 20_memory.md. What the byte spaces hold after a step (spec/20_memory.md R50, R60), and the bytes that a `COPY` reads and appends (R51; spec/49_body_decoder.md R230). -/

namespace Sys2Proof.Machine

/-! ### `TGT_OUT` and `DELTA_OUT` (R50, R60, R233, R258) -/

theorem State.DecodeMoved.tgtOut {s t : State} (hm : s.DecodeMoved t) : t.dec.tgtOut = s.dec.tgtOut := by
  obtain ⟨d, failed, call, hkept, hdec, -⟩ := hm.dec
  rw [hdec]
  exact hkept.tgtOut

/-- The guards of `Complete` say that a declared checksum is the one of the decoded bytes (R233). -/
theorem Decoder.checksumOk_iff (d : Decoder) :
    d.checksumOk = true ↔ (d.win.hasChecksum = true → adler32 d.decoded.bytes = d.win.checksum) := by
  cases h : d.win.hasChecksum <;> simp [Decoder.checksumOk, h]

/-- Of the steps that create no decode session, only the commit of a window writes `TGT_OUT`. -/
theorem State.committed_of_tgtOut_ne {s t : State} (h : step s = .next t) (hn : ¬ s.creating .decode)
    (hne : t.dec.tgtOut ≠ s.dec.tgtOut) : s.Committed t := by
  rcases step_effects h with rfl | ⟨-, o, rest, -, -, ⟨-, hm⟩ | ⟨-, hm⟩⟩ | ⟨-, rest, cfg, dict, -, rfl⟩ |
    ⟨hcall, rest, cfg, dict, hops, -⟩ | ⟨-, hm | hm⟩
  · exact absurd rfl hne
  · exact absurd (congrArg Decoder.tgtOut hm.dec) hne
  · exact absurd hm.tgtOut hne
  · exact absurd rfl hne
  · exact absurd ⟨hcall, _, rest, hops, rfl, rfl⟩ hn
  · exact absurd hm.tgtOut hne
  · exact hm

/-- Settles O52: a step that changes `TGT_OUT` is a commit, and a commit has passed every check of R233. -/
theorem commitOnlyWhenChecked : Obligations.CommitOnlyWhenChecked := by
  intro s t h hn hne
  have hm := State.committed_of_tgtOut_ne h hn hne
  obtain ⟨call, phase, hdec⟩ := hm.dec
  have hfull : s.dec.win.targetLen ≤ s.dec.decoded.len := of_decide_eq_true hm.full
  exact ⟨hm.started, hfull, hm.excess, s.dec.checksumOk_iff.mp hm.checked, by rw [hdec], by rw [hdec]⟩

theorem State.EncodeMoved.deltaOut_grows {s t : State} (hm : s.EncodeMoved t) :
    ∃ bs, t.enc.deltaOut = s.enc.deltaOut.append bs := by
  obtain ⟨e, failed, hkept, henc, -⟩ := hm.enc
  rw [henc]
  exact hkept.deltaOut

/-- Settles O53, by the effects a step can have: an operation of the encode session appends, everything else leaves `DELTA_OUT`. -/
theorem deltaOutOnlyGrows : Obligations.DeltaOutOnlyGrows := by
  intro s t h hn
  have unchanged : t.enc = s.enc → ∃ bs, t.enc.deltaOut = s.enc.deltaOut.append bs := fun he => ⟨[], by simp [he]⟩
  rcases step_effects h with rfl | ⟨-, o, rest, -, -, ⟨-, hm⟩ | ⟨-, hm⟩⟩ | ⟨hcall, rest, cfg, dict, hops, -⟩ |
    ⟨-, rest, cfg, dict, -, rfl⟩ | ⟨-, hm | hm⟩
  · exact unchanged rfl
  · exact hm.deltaOut_grows
  · exact unchanged hm.enc
  · exact absurd ⟨hcall, _, rest, hops, rfl, rfl⟩ hn
  · exact unchanged rfl
  · exact unchanged hm.enc
  · exact unchanged hm.enc

/-! ### `COPY` (R51, R230, R240) -/

/-- R230's loop from an address below `here` appends the bytes that the `COPY` address space names. -/
theorem Decoder.copyFrom_copied {a n : Nat} {d : Decoder} (hspace : d.copySpaceFits) (ha : a < d.here) :
    ∃ bs : Bytes, bs.length = n ∧ d.copied a bs ∧
      Decoder.copyFrom a n d = .ok { d with decoded := d.decoded.append bs } () := by
  obtain ⟨hdict, hdecoded, hseg⟩ := hspace
  obtain ⟨bs, hok, hlen⟩ := Decoder.copyFrom_total (n := n) hdict hdecoded hseg ha
  obtain ⟨bs', hlen', heq, hbytes⟩ := Decoder.copyFrom_ok hok
  exact ⟨bs', hlen', hbytes, by rw [hok, heq]⟩

/-- A `COPY` whose address `AC_DECODE` gives and the configuration admits: the bytes are appended, the cursor is past the field, the cache is the updated one. -/
theorem Decoder.doCopy_completes {d : Decoder} {size mode a : Nat} {rest : Bytes} {cache : AddrCache}
    (hspace : d.copySpaceFits) (haddr : d.cache.decode d.cfg mode d.here d.addresses.bytes = .ok a rest cache)
    (hadmit : d.cfg.targetCopyMode = .refuse → a + size ≤ d.win.srcSegLen) :
    ∃ bs : Bytes, bs.length = size ∧ d.copied a bs ∧ d.doCopy size mode =
      .ok { Decoder.setAddressPos { d with cache := cache } (d.addresses.posAfter rest) with
              decoded := d.decoded.append bs } () := by
  have hnot : ¬ (d.cfg.targetCopyMode = .refuse ∧ d.win.srcSegLen < a + size) :=
    fun ⟨hm, hlt⟩ => absurd (hadmit hm) (Nat.not_le.mpr hlt)
  obtain ⟨bs, hlen, hbytes, hok⟩ := Decoder.copyFrom_copied (a := a) (n := size)
    (d := Decoder.setAddressPos { d with cache := cache } (d.addresses.posAfter rest))
    (by simpa [Decoder.copySpaceFits] using hspace)
    (by simpa [Decoder.here] using (AddrCache.decode_ok haddr).1)
  refine ⟨bs, hlen, by simpa [Decoder.copied] using hbytes, ?_⟩
  simpa [Decoder.doCopy, haddr, hnot] using hok

/-- A delivered `COPY` completes in either window mode; an interleaved window moves `ipos` and clears `pendingInst` (R225, R235). -/
theorem Decoder.issue_copy_completes {d : Decoder} {size mode a : Nat} {rest : Bytes} {cache : AddrCache}
    (hspace : d.copySpaceFits) (hfit : d.decoded.len + size ≤ d.win.targetLen)
    (haddr : d.cache.decode d.cfg mode d.here d.addresses.bytes = .ok a rest cache)
    (hadmit : d.cfg.targetCopyMode = .refuse → a + size ≤ d.win.srcSegLen) :
    ∃ bs : Bytes, bs.length = size ∧ d.copied a bs ∧
      (d.win.mode = .standard → d.issue ⟨.copy, size, mode⟩ = .ok { d with
        decoded := d.decoded.append bs, apos := d.addresses.posAfter rest, cache := cache } ()) ∧
      (d.win.mode = .interleaved → d.issue ⟨.copy, size, mode⟩ = .ok { d with
        decoded := d.decoded.append bs, ipos := d.addresses.posAfter rest, cache := cache, pendingInst := none } ()) := by
  cases hm : d.win.mode with
  | standard =>
    obtain ⟨bs, hlen, hbytes, hok⟩ := Decoder.doCopy_completes hspace haddr hadmit
    refine ⟨bs, hlen, hbytes, fun _ => ?_, nofun⟩
    rw [Decoder.issue_standard hfit hm]
    simp [Decoder.perform, hok, Decoder.setAddressPos, hm]
  | interleaved =>
    obtain ⟨bs, hlen, hbytes, hok⟩ :=
      Decoder.doCopy_completes (d := { d with pendingInst := some ⟨.copy, size, mode⟩ }) hspace haddr hadmit
    refine ⟨bs, hlen, hbytes, nofun, fun _ => ?_⟩
    have hsource : Decoder.addresses { d with pendingInst := some ⟨.copy, size, mode⟩ } = d.addresses := rfl
    rw [Decoder.issue_interleaved hfit hm]
    simp [Decoder.retry, Decoder.perform, hok, hsource, Decoder.setAddressPos, hm]

/-- In a running body a single instruction that is issued with `Ok` answers the next state, with the session it leaves. -/
theorem exec_single_ok {i : Instr} {s : State} {d : Decoder} (hi : i.second = none) (hrun : s.dec.running)
    (hok : s.dec.issue i.first = .ok d ()) : exec i s = .next { s with dec := d } := by
  rw [exec_single hi, State.runSingle, State.inBody_running hrun.1 hrun.2, hok, State.settle_ok]

/-- R225: in a standard window address fields are read at `apos`. -/
theorem Decoder.addresses_posAfter_standard {d : Decoder} (h : d.win.mode = .standard) (rest : Bytes) :
    d.addresses.posAfter rest = d.apos + (d.addresses.bytes.length - rest.length) := by
  simp only [Source.posAfter, Decoder.addresses, h]

/-- R225: in an interleaved window address fields are read at `ipos`. -/
theorem Decoder.addresses_posAfter_interleaved {d : Decoder} (h : d.win.mode = .interleaved) (rest : Bytes) :
    d.addresses.posAfter rest = d.ipos + (d.addresses.bytes.length - rest.length) := by
  simp only [Source.posAfter, Decoder.addresses, h]

/-- Settles O33: a single opcode of type `COPY` is the delivered `COPY` of its triple, whose address field ends where `rest` begins. -/
theorem copyCompletes : Obligations.CopyCompletes := by
  intro i size mode a rest cache s hfirst hsecond hrun hspace hfit haddr hadmit
  obtain ⟨bs, hlen, hbytes, hstandard, hinterleaved⟩ := Decoder.issue_copy_completes hspace hfit haddr hadmit
  refine ⟨bs, hlen, hbytes, fun hm => ?_, fun hm => ?_⟩
  · rw [← Decoder.addresses_posAfter_standard hm]
    exact exec_single_ok hsecond hrun (hfirst ▸ hstandard hm)
  · rw [← Decoder.addresses_posAfter_interleaved hm]
    exact exec_single_ok hsecond hrun (hfirst ▸ hinterleaved hm)

end Sys2Proof.Machine
end

section
/-! PROOFS, family 30_encoding.md. The bytes of instructions, of the window and of the file header, written and read back (spec/30_encoding.md R71 to R90), what the default table encodes and delivers (R80), and that every instruction has a meaning (R91). -/

namespace Sys2Proof

/-! ### The varint (R71) -/

/-- R101, R102: a value within the bound reads back from its encoding, whatever follows. -/
theorem varintDecode_encode {max v : Nat} (h : v ≤ max) (rest : Bytes) :
    varintDecode max (varintEncode v ++ rest) = .ok v rest := by
  obtain ⟨hpos, hlt, -⟩ := varintLen_bounds v
  have hread := varintDecodeFrom_groups max v rest h (varintLen v - 1)
  rw [Nat.sub_add_cancel hpos, Nat.div_eq_of_lt hlt] at hread
  exact hread

/-- Settles O7: the groups of R101 are as many as R100 counts, and their low bits sum to the value modulo `128 ^ n`, which is the value. -/
theorem varintMinimal : Obligations.VarintMinimal := by
  intro v
  obtain ⟨hpos, hlt, hmin⟩ := varintLen_bounds v
  rw [varintEncode_length]
  refine ⟨hpos, hlt, hmin, varintGroups_get v (varintLen v), ?_⟩
  have hsum := varintGroups_fold v (varintLen v) 0
  rwa [Nat.zero_mul, Nat.zero_add, Nat.mod_eq_of_lt hlt] at hsum

/-! ### One instruction of the default table (R74, R75, R80) -/

/-- The explicit size of the instruction that a size completes a form to. -/
def OpcodeForm.explicitSize (f : OpcodeForm) (size : Nat) : Option Nat :=
  match f with
  | .fixed _ => none
  | .sized _ => some size
  | .undefined => none

/-- R80, row by row: every opcode byte is that of the instruction its row selects, with an explicit size where the row has one. -/
theorem opcodeForm_row {op : Nat} (h : op < 256) (size : Nat) :
    ∃ i, (opcodeForm op).complete size = some i ∧ i.opcode = op ∧ i.explicitSize = (opcodeForm op).explicitSize size := by
  interval_cases op <;> exact ⟨_, rfl, rfl, rfl⟩

/-- R74, R91: an opcode byte stands for one instruction, or for one of each size. -/
theorem opcodeForm_cases (op : Byte) :
    (∃ i, opcodeForm op.toNat = .fixed i ∧ i.opcode = op.toNat ∧ i.explicitSize = none) ∨
    ∃ f, opcodeForm op.toNat = .sized f ∧ ∀ size, (f size).opcode = op.toNat ∧ (f size).explicitSize = some size := by
  have row := opcodeForm_row op.isLt
  cases hf : opcodeForm op.toNat with
  | fixed j =>
    obtain ⟨i, hi, hop, hsize⟩ := row 0
    rw [hf] at hi hsize
    cases hi
    exact .inl ⟨j, rfl, hop, hsize⟩
  | sized f =>
    refine .inr ⟨f, rfl, fun size => ?_⟩
    obtain ⟨i, hi, hop, hsize⟩ := row size
    rw [hf] at hi hsize
    cases hi
    exact ⟨hop, hsize⟩
  | undefined =>
    obtain ⟨i, hi, -⟩ := row 0
    rw [hf] at hi
    cases hi

/-- The row at an instruction's opcode is that instruction, or the one of its explicit size. -/
theorem Instr.opcodeForm_opcode (i : Instr) :
    (i.explicitSize = none ∧ opcodeForm i.opcode = .fixed i) ∨
    ∃ f size, i.explicitSize = some size ∧ opcodeForm i.opcode = .sized f ∧ f size = i := by
  obtain ⟨-, -, -, hfirst, hrow⟩ := i.table_row
  rw [← hfirst] at hrow
  rcases opcodeForm_cases (BitVec.ofNat 8 i.opcode) with ⟨j, hf, -, hsize⟩ | ⟨f, hf, hsize⟩ <;>
    rw [i.opcode_byte] at hf <;> rw [hf] at hrow
  · cases hrow
    exact .inl ⟨hsize, hf⟩
  · obtain ⟨-, hexplicit⟩ := hsize (i.explicitSize.getD i.first.size)
    have hi := Option.some.inj hrow
    rw [hi] at hexplicit
    exact .inr ⟨f, _, hexplicit, hf, hi⟩

theorem Instr.wellFormed_of_inline {i : Instr} (h : i.explicitSize = none) : i.wellFormed = true := by
  simp [Instr.wellFormed, h]

theorem Instr.wellFormed_iff_of_explicit {i : Instr} {size : Nat} (h : i.explicitSize = some size) :
    i.wellFormed = true ↔ size ≤ Machine.varintMax := by
  simp [Instr.wellFormed, h]

/-- Settles O2: the opcode byte selects the instruction's row, and the row reads the explicit size back where there is one. -/
theorem decodeOfEncode : Obligations.DecodeOfEncode := by
  intro i rest hwf
  rcases i.opcodeForm_opcode with ⟨hsize, hf⟩ | ⟨f, size, hsize, hf, hi⟩
  · simp only [encode, decode, hsize, hf, i.opcode_byte, List.cons_append, List.nil_append]
  · have hread := varintDecode_encode ((Instr.wellFormed_iff_of_explicit hsize).mp hwf) rest
    simp only [encode, decode, hsize, hf, hread, hi, i.opcode_byte, List.cons_append]

/-- R74, R202: an opcode byte decodes to an instruction of an inline size, or as the varint after it reads. -/
theorem decode_cons_cases (op : Byte) (tail : Bytes) :
    (∃ i, op = BitVec.ofNat 8 i.opcode ∧ i.explicitSize = none ∧ decode (op :: tail) = .instr i tail) ∨
    (∃ i size rest, op = BitVec.ofNat 8 i.opcode ∧ i.explicitSize = some size ∧
      varintDecode Machine.varintMax tail = .ok size rest ∧ decode (op :: tail) = .instr i rest) ∨
    (∃ i : Instr, op = BitVec.ofNat 8 i.opcode ∧ i.explicitSize.isSome ∧ varintDecode Machine.varintMax tail = .eod ∧
      decode (op :: tail) = .short) ∨
    ∃ i : Instr, op = BitVec.ofNat 8 i.opcode ∧ i.explicitSize.isSome ∧ varintDecode Machine.varintMax tail = .overflow ∧
      decode (op :: tail) = .sizeOverflow := by
  have byte : ∀ {i : Instr}, i.opcode = op.toNat → op = BitVec.ofNat 8 i.opcode := fun h => by simp [h]
  rcases opcodeForm_cases op with ⟨i, hf, hop, hsize⟩ | ⟨f, hf, hrow⟩
  · exact .inl ⟨i, byte hop, hsize, by simp only [decode, hf]⟩
  · cases hv : varintDecode Machine.varintMax tail with
    | ok size rest =>
      exact .inr (.inl ⟨f size, size, rest, byte (hrow size).1, (hrow size).2, rfl, by simp only [decode, hf, hv]⟩)
    | eod => exact .inr (.inr (.inl ⟨f 0, byte (hrow 0).1, by simp [hrow], rfl, by simp only [decode, hf, hv]⟩))
    | overflow => exact .inr (.inr (.inr ⟨f 0, byte (hrow 0).1, by simp [hrow], rfl, by simp only [decode, hf, hv]⟩))

/-- Settles O3: an inline size has no bytes; an explicit one is read from a nonempty beginning of what follows the opcode, and is within `VARINT_MAX`. -/
theorem decodedInstruction : Obligations.DecodedInstruction := by
  intro bs i rest h
  cases bs with
  | nil => cases h
  | cons op tail =>
    rcases decode_cons_cases op tail with ⟨j, hop, hsize, hd⟩ | ⟨j, size, r, hop, hsize, hread, hd⟩ | ⟨_, -, -, -, hd⟩ |
      ⟨_, -, -, -, hd⟩ <;> rw [hd] at h <;> cases h
    · exact ⟨Instr.wellFormed_of_inline hsize, [], by rw [hop]; rfl, by simp [hsize]⟩
    · obtain ⟨hmax, used, rfl, hused, -⟩ :=
        varintDecodeFrom_ok Machine.varintMax (by decide) tail 0 size rest (Nat.zero_le _) rfl hread
      exact ⟨(Instr.wellFormed_iff_of_explicit hsize).mpr hmax, used, by rw [hop], by simp [hsize, hused]⟩

/-- Settles O1: the decoder, run on each word. -/
theorem decodesSpecWords : Obligations.DecodesSpecWords := by
  refine ⟨?_, ?_, ?_, ?_, ?_, ?_, ?_, ?_⟩ <;> decide

/-! ### The triples of an instruction (R73, R80) -/

/-- R80: a table size is positive wherever it is not the mark of an explicit size. -/
theorem Instr.first_size_pos {i : Instr} (h : i.explicitSize = none) : 1 ≤ i.first.size := by
  revert h
  cases i <;> simp [Instr.explicitSize, Instr.first]

theorem Instr.first_size_of_explicit {i : Instr} {size : Nat} (h : i.explicitSize = some size) : i.first.size = size := by
  obtain ⟨-, -, -, hsize, -⟩ := i.table_row
  rw [h] at hsize
  exact hsize.symm

theorem Instr.first_active (i : Instr) : i.first.inst ≠ .noop := by
  rcases i.first_cases with ⟨h, -⟩ | ⟨h, -⟩ | ⟨h, -⟩ <;> simp [h]

theorem Instr.second_active {i : Instr} {u : Triple} (h : i.second = some u) : u.inst ≠ .noop := by
  obtain ⟨⟨-, hu⟩ | ⟨-, hu⟩, -⟩ := Instr.second_cases h <;> simp [hu]

end Sys2Proof

namespace Sys2Proof.Machine

/-! ### Fetch under the default table (R202, R203) -/

/-- R202: an opcode byte of the default table delivers the instruction's first triple, its size 0 where an explicit size follows, and stays pending where the opcode is compound. -/
theorem nextTriple_opcode (i : Instr) (bs : Bytes) :
    nextTriple .standard none (BitVec.ofNat 8 i.opcode :: bs) =
      some ({ i.first with size := if i.explicitSize.isSome then 0 else i.first.size },
        i.second.map fun _ => BitVec.ofNat 8 i.opcode, bs) := by
  obtain ⟨-, hfirst, hsecond, -, -⟩ := i.table_row
  have hpending : (if (i.second.getD ⟨.noop, 0, 0⟩).inst = .noop then none else some (BitVec.ofNat 8 i.opcode))
      = i.second.map fun _ => BitVec.ofNat 8 i.opcode := by
    cases hu : i.second with
    | none => rfl
    | some u => simp [Instr.second_active hu]
  simp only [nextTriple, CodeTable.entry, i.opcode_byte, hfirst, hsecond, hpending, ne_eq, i.first_active,
    not_false_eq_true, if_true]

/-- R202: with an inline size, `ID_NEXT` delivers the first triple and moves past the opcode. -/
theorem Decoder.idNext_inline {d : Decoder} {i : Instr} {rest : Bytes} (htable : d.cfg.codeTable = .standard)
    (hpending : d.pendingSecond = none) (hbytes : d.instructions.bytes = BitVec.ofNat 8 i.opcode :: rest)
    (hsize : i.explicitSize = none) :
    d.idNext = .ok { d with
      ipos := d.instructions.posAfter rest
      pendingSecond := i.second.map fun _ => BitVec.ofNat 8 i.opcode } i.first := by
  have hpos := Instr.first_size_pos hsize
  simp [Decoder.idNext, htable, hpending, hbytes, nextTriple_opcode, hsize, Nat.ne_of_gt hpos]

/-- R202: with an explicit size, `ID_NEXT` reads it after the opcode and moves past it. -/
theorem Decoder.idNext_explicit {d : Decoder} {i : Instr} {size : Nat} {tail rest : Bytes}
    (htable : d.cfg.codeTable = .standard) (hpending : d.pendingSecond = none)
    (hbytes : d.instructions.bytes = BitVec.ofNat 8 i.opcode :: tail) (hsize : i.explicitSize = some size)
    (hread : varintDecode varintMax tail = .ok size rest) :
    d.idNext = .ok { d with
      ipos := d.instructions.posAfter rest
      pendingSecond := i.second.map fun _ => BitVec.ofNat 8 i.opcode } i.first := by
  have hfirst : { i.first with size := size } = i.first := by rw [← Instr.first_size_of_explicit hsize]
  simp [Decoder.idNext, htable, hpending, hbytes, nextTriple_opcode, hsize, hread, hfirst]

/-- R203: an explicit size whose bytes end is `EOD` as a missing opcode is. -/
theorem Decoder.idNext_short {d : Decoder} {i : Instr} {tail : Bytes} (htable : d.cfg.codeTable = .standard)
    (hpending : d.pendingSecond = none) (hbytes : d.instructions.bytes = BitVec.ofNat 8 i.opcode :: tail)
    (hsize : i.explicitSize.isSome) (hread : varintDecode varintMax tail = .eod) :
    d.idNext = d.instructions.ranOut d := by
  simp [Decoder.idNext, htable, hpending, hbytes, nextTriple_opcode, hsize, hread]

/-- R202: an explicit size above `VARINT_MAX`. -/
theorem Decoder.idNext_overflow {d : Decoder} {i : Instr} {tail : Bytes} (htable : d.cfg.codeTable = .standard)
    (hpending : d.pendingSecond = none) (hbytes : d.instructions.bytes = BitVec.ofNat 8 i.opcode :: tail)
    (hsize : i.explicitSize.isSome) (hread : varintDecode varintMax tail = .overflow) :
    d.idNext = .err d.overflowed .varintOverflow := by
  simp [Decoder.idNext, htable, hpending, hbytes, nextTriple_opcode, hsize, hread]

theorem Decoder.idNext_empty {d : Decoder} (hpending : d.pendingSecond = none) (hbytes : d.instructions.bytes = []) :
    d.idNext = d.instructions.ranOut d := by
  simp [Decoder.idNext, hpending, hbytes, nextTriple]

theorem Decoder.instructions_posAfter (d : Decoder) (rest : Bytes) :
    d.instructions.posAfter rest = d.ipos + (d.instructions.bytes.length - rest.length) := by
  have hpos : d.instructions.pos = d.ipos := by
    unfold Decoder.instructions
    cases d.ibuf <;> rfl
  rw [Source.posAfter, hpos]

/-- R203: where every byte up to `iend` is present, running out of them is `EOD`. -/
theorem Decoder.instructions_ranOut {d : Decoder} (h : d.instructions.bytes.length = d.iend - d.ipos) :
    (d.instructions.ranOut d : Act Decoder Triple) = .eod d := by
  have hlim : d.instructions.lim - d.instructions.pos = d.iend - d.ipos := by
    unfold Decoder.instructions
    cases d.ibuf <;> rfl
  simp [Source.ranOut, hlim, h]

/-- Settles O4: `decode` and `ID_NEXT` split the bytes in the same way: none, an opcode of an inline size, an opcode and a varint that reads, ends early or overflows. -/
theorem fetchIsIdNext : Obligations.FetchIsIdNext := by
  intro d htable hpending hlen
  have hpos := d.instructions_posAfter
  have heod := Decoder.instructions_ranOut hlen
  cases hbytes : d.instructions.bytes with
  | nil => exact ⟨nofun, fun _ => (Decoder.idNext_empty hpending hbytes).trans heod, nofun⟩
  | cons op tail =>
    rw [← hbytes]
    rcases decode_cons_cases op tail with ⟨i, rfl, hsize, hd⟩ | ⟨i, size, rest, rfl, hsize, hread, hd⟩ |
      ⟨i, rfl, hsize, hread, hd⟩ | ⟨i, rfl, hsize, hread, hd⟩ <;>
      rw [← hbytes] at hd <;> refine ⟨fun j r h => ?_, fun h => ?_, fun h => ?_⟩ <;> rw [hd] at h <;> cases h
    · rw [← hpos, Decoder.idNext_inline htable hpending hbytes hsize]
    · rw [← hpos, Decoder.idNext_explicit htable hpending hbytes hsize hread]
    · rw [Decoder.idNext_short htable hpending hbytes hsize hread, heod]
    · exact Decoder.idNext_overflow htable hpending hbytes hsize hread

/-! ### The instruction map of the default table (R80, R163, R165) -/

/-- The triple that an opcode registers as a single instruction (R163). -/
def singleKey (t : CodeTable) (op : Nat) : Option Triple :=
  if (t.entry (BitVec.ofNat 8 op)).firstTriple.inst ≠ .noop ∧ (t.entry (BitVec.ofNat 8 op)).secondTriple.inst = .noop then
    some (t.entry (BitVec.ofNat 8 op)).firstTriple
  else none

theorem registerSingle_none {t : CodeTable} {op : Nat} (h : singleKey t op = none) (m : List (Triple × Byte)) :
    registerSingle t m op = m := by
  unfold singleKey at h
  split at h
  · cases h
  · next hnot => simp only [registerSingle, hnot, if_false]

theorem registerSingle_some {t : CodeTable} {op : Nat} {k : Triple} (h : singleKey t op = some k) (m : List (Triple × Byte)) :
    registerSingle t m op = mapRegister m k (BitVec.ofNat 8 op) := by
  unfold singleKey at h
  split at h
  · next hsingle =>
    cases h
    simp only [registerSingle, if_pos hsingle]
  · cases h

/-- R163: the finished first map holds a triple under the lowest opcode that is registered with it. -/
theorem mapLookup_imBuild_first (t : CodeTable) (k : Triple) :
    mapLookup k (imBuild t).first =
      ((List.range 256).find? fun op => decide (singleKey t op = some k)).map (BitVec.ofNat 8) := by
  rw [imBuild, mapLookup_fold k (registerSingle t) (singleKey t)]
  · simp [mapLookup]
  · intro m op
    cases hkey : singleKey t op with
    | none => exact registerSingle_none hkey m
    | some k => exact registerSingle_some hkey m

/-- R163: a triple that some opcode is registered with has an opcode. -/
theorem mapLookup_imBuild_isSome {t : CodeTable} {k : Triple} {op : Nat} (hop : op < 256) (hkey : singleKey t op = some k) :
    (mapLookup k (imBuild t).first).isSome := by
  rw [mapLookup_imBuild_first, Option.isSome_map, List.find?_isSome]
  exact ⟨op, List.mem_range.mpr hop, decide_eq_true hkey⟩

/-- R80: the opcode of the default table with an explicit size, of each type and mode that has one. -/
theorem singleKey_explicit {t : Triple}
    (h : t.inst = .add ∧ t.mode = 0 ∨ t.inst = .run ∧ t.mode = 0 ∨ t.inst = .copy ∧ t.mode < 9) :
    ∃ op < 256, singleKey .standard op = some ⟨t.inst, 0, t.mode⟩ := by
  rcases h with ⟨hi, hm⟩ | ⟨hi, hm⟩ | ⟨hi, hm⟩ <;> rw [hi]
  · exact ⟨1, by decide, by rw [hm]; decide⟩
  · exact ⟨0, by decide, by rw [hm]; decide⟩
  · have hrow : ∀ mode < 9, singleKey .standard (19 + 16 * mode) = some ⟨.copy, 0, mode⟩ := by decide
    exact ⟨19 + 16 * t.mode, by omega, hrow t.mode hm⟩

/-- Settles O20: of the ways `IM_ENCODE` can go, a size in range excludes `ENC_RANGE`, and the opcode with an explicit size excludes `ENC_NO_OPCODE`. -/
theorem defaultTableEncodesAll : Obligations.DefaultTableEncodesAll := by
  intro ws t hpos hmax hkind
  obtain ⟨op, hop, hkey⟩ := singleKey_explicit hkind
  have hlookup := mapLookup_imBuild_isSome hop hkey
  rcases imEncode_cases (imBuild .standard) ws t with ⟨_, _, _, -, -, -, -, -, h⟩ | ⟨_, -, -, -, h⟩ | ⟨_, -, -, -, h⟩ |
    ⟨hrange, -⟩ | ⟨-, -, hnone, -⟩
  · exact ⟨_, h⟩
  · exact ⟨_, h⟩
  · exact ⟨_, h⟩
  · omega
  · simp [hnone] at hlookup

/-! ### The window serializer (R185) -/

/-- A session with a checksum format was given a checksum within its bound (R185). -/
def checksumGiven (f : ChecksumFormat) (checksum : Option Nat) : Prop :=
  f ≠ .absent → ∃ ck, checksum = some ck ∧ ck ≤ cksumMax

/-- What `WS_OUTPUT` has checked when it answers `Ok`, and what it has done. -/
structure Encoder.Wrote (e : Encoder) (checksum : Option Nat) (e1 : Encoder) : Prop where
  given     : checksumGiven e.cfg.checksumFormat checksum
  deltaLen  : e.ws.deltaLen (checksumField e.cfg.checksumFormat (checksum.getD 0)) ≤ varintMax
  dictLen   : e.ws.dictLen ≤ varintMax
  targetLen : e.ws.targetLen ≤ varintMax
  deltaOut  : e1.deltaOut = e.deltaOut.append
    (e.ws.windowHead e.cfg.checksumFormat (checksumField e.cfg.checksumFormat (checksum.getD 0)) ++
      e.ws.windowBody (checksumField e.cfg.checksumFormat (checksum.getD 0)))

/-- `WS_OUTPUT` writes a window, or is refused for the empty window or for a value out of range. -/
theorem wsOutput_cases (e : Encoder) (checksum : Option Nat) :
    (∃ e1, wsOutput e checksum = .ok e1 () ∧ e.Wrote checksum e1) ∨ wsOutput e checksum = .err e .encEmptyWindow ∨
      wsOutput e checksum = .err e .encRange := by
  unfold wsOutput
  simp only [Serializer.windowBody_length, ne_eq, not_true_eq_false, if_false]
  split_ifs with hempty hck hdelta hrange
  · exact .inr (.inl rfl)
  · exact .inr (.inr rfl)
  · exact .inr (.inr rfl)
  · exact .inr (.inr rfl)
  · refine .inl ⟨_, rfl, fun hf => ?_, Nat.not_lt.mp hdelta, by omega, by omega, rfl⟩
    cases checksum with
    | none => exact absurd ⟨hf, .inl rfl⟩ hck
    | some ck => exact ⟨ck, rfl, Nat.not_lt.mp fun h => hck ⟨hf, .inr h⟩⟩

theorem wsOutput_ok {e e1 : Encoder} {checksum : Option Nat} (h : wsOutput e checksum = .ok e1 ()) : e.Wrote checksum e1 := by
  rcases wsOutput_cases e checksum with ⟨e2, h', hwrote⟩ | h' | h' <;> rw [h'] at h <;> cases h
  exact hwrote

/-- Settles O23: the body is as long as R185 computes. -/
theorem lengthAssertUnreachable : Obligations.LengthAssertUnreachable := by
  intro e e1 checksum h
  rcases wsOutput_cases e checksum with ⟨_, h', -⟩ | h' | h' <;> rw [h'] at h <;> cases h

/-! ### The fields of a window, read back (R84 to R90, R212) -/

theorem scanVar_encode {max v : Nat} (h : v ≤ max) (rest : Bytes) : scanVar max (varintEncode v ++ rest) = .ok v rest := by
  simp [scanVar, varintDecode_encode h]

theorem scanBytes_append {n : Nat} {bs : Bytes} (h : bs.length = n) (rest : Bytes) : scanBytes n (bs ++ rest) = .ok bs rest := by
  subst h
  simp [scanBytes]

theorem scanCheck_pass (c : Cause) (bs : Bytes) : scanCheck false c bs = .ok () bs := rfl

theorem readBigEndian_bigEndian32 {v : Nat} (h : v ≤ cksumMax) : readBigEndian (bigEndian32 v) = v := by
  simp only [readBigEndian, bigEndian32, List.foldl_cons, List.foldl_nil, BitVec.toNat_ofNat, cksumMax] at h ⊢
  omega

/-- R84, R85: the segment fields of a window that declares a source segment from position 0. -/
theorem scanSegment_written {dictLen len : Nat} (f : ChecksumFormat) (hmax : len ≤ varintMax) (hdict : len ≤ dictLen)
    (rest : Bytes) :
    scanSegment dictLen (winIndicator f) (varintEncode len ++ (varintEncode 0 ++ rest)) = .ok (len, 0) rest := by
  have hbit : winIndicator f &&& 0x01 ≠ 0 := by cases f <;> decide
  rw [scanSegment, if_neg hbit]
  simp [scanVar_encode hmax, scanVar_encode (Nat.zero_le varintMax), Nat.not_lt.mpr hdict, scanCheck_pass]

/-- R90: the checksum field is read in the format of the session that wrote it, which the version byte and the win indicator tell. -/
theorem scanChecksum_written {cfg : Cfg} {checksum : Option Nat}
    (hpair : ¬ (cfg.checksumFormat = .xdelta3 ∧ cfg.interleaved = true))
    (hck : checksumGiven cfg.checksumFormat checksum) (rest : Bytes) :
    scanChecksum (versionByte cfg) (winIndicator cfg.checksumFormat)
        (checksumField cfg.checksumFormat (checksum.getD 0) ++ rest) =
      .ok (if cfg.checksumFormat = .absent then none else checksum) rest := by
  cases hf : cfg.checksumFormat with
  | absent => rfl
  | sdch =>
    obtain ⟨ck, rfl, hmax⟩ := hck (by simp [hf])
    have hversion : versionByte cfg = 0x53 := by simp [versionByte, hf]
    simp [scanChecksum, winIndicator, hversion, checksumField, scanVar_encode hmax]
  | xdelta3 =>
    obtain ⟨ck, rfl, hmax⟩ := hck (by simp [hf])
    have hversion : versionByte cfg = 0x00 := by simpa [versionByte, hf] using fun h => hpair ⟨hf, h⟩
    have hraw : (bigEndian32 ck).length = 4 := rfl
    simp [scanChecksum, winIndicator, hversion, checksumField, scanBytes_append hraw, readBigEndian_bigEndian32 hmax]

theorem checksumRead_isSome {f : ChecksumFormat} {checksum : Option Nat} (hck : checksumGiven f checksum) :
    (if f = .absent then none else checksum).isSome = (f != .absent) := by
  by_cases hf : f = .absent
  · simp [hf]
  · obtain ⟨ck, rfl, -⟩ := hck hf
    simp [hf]

/-- R89: the three sections of a standard window. -/
theorem scanSections_standard (data inst addr rest : Bytes) :
    scanSections .standard data.length inst.length addr.length (data ++ (inst ++ (addr ++ rest))) =
      .ok (some ⟨data, inst, addr⟩) rest := by
  have hlen : (data ++ (inst ++ addr)).length = data.length + inst.length + addr.length := by simp [Nat.add_assoc]
  have hread := scanBytes_append hlen rest
  simp only [List.append_assoc] at hread
  simp [scanSections, hread, List.drop_append]

/-- R221: an interleaved window has no bytes outside its instructions section. -/
theorem windowMode_interleaved {ld li la : Nat} (h : windowMode ld li la = .interleaved) : ld = 0 ∧ la = 0 := by
  unfold windowMode at h
  split at h
  · next hempty => exact ⟨hempty.1, hempty.2.1⟩
  · cases h

/-- R87: what stands between the delta length and the sections, with the sections, is as long as the delta length says. -/
theorem Serializer.deltaLen_counts (ws : Serializer) (ck rest : Bytes) :
    (ws.windowBody ck ++ rest).length - (ws.dataBuf.bytes ++ (ws.instBuf.bytes ++ (ws.addrBuf.bytes ++ rest))).length
      + ws.dataBuf.len + ws.instBuf.len + ws.addrBuf.len = ws.deltaLen ck := by
  simp only [List.length_append, Serializer.windowBody_length, Memory.bytes_length, Serializer.deltaLen]
  omega

/-- Settles O26: each field of R212 reads what R185 wrote there, and each check passes. -/
theorem serializedWindowParses : Obligations.SerializedWindowParses := by
  intro e e1 checksum cfg dictLen rest hpair hok hwindow hdict
  obtain ⟨hgiven, hdelta, hdictLen, htarget, hout⟩ := wsOutput_ok hok
  refine ⟨_, by rw [hout, Memory.append_bytes], ?_⟩
  have hbounds : e.ws.dataBuf.len ≤ varintMax ∧ e.ws.instBuf.len ≤ varintMax ∧ e.ws.addrBuf.len ≤ varintMax := by
    unfold Serializer.deltaLen at hdelta
    omega
  have hcount := e.ws.deltaLen_counts (checksumField e.cfg.checksumFormat (checksum.getD 0)) rest
  simp only [Serializer.windowBody, List.append_assoc, List.cons_append, List.nil_append] at hcount
  simp only [scanWindow, Serializer.windowHead, Serializer.windowBody, List.append_assoc, List.cons_append, List.nil_append,
    scanByte, Scan.bind_ok]
  have hbits : winIndicator e.cfg.checksumFormat &&& 0x02 = 0 ∧ winIndicator e.cfg.checksumFormat &&& 0xF8 = 0 := by
    cases e.cfg.checksumFormat <;> decide
  simp only [hbits, bne_self_eq_false, scanCheck_pass, Scan.bind_ok, scanSegment_written _ hdictLen hdict, scanVar_encode,
    hdelta, htarget, hbounds, decide_eq_false (Nat.not_lt.mpr hwindow), scanChecksum_written hpair hgiven, hcount,
    checksumRead_isSome hgiven, apply_ite (Option.getD · 0), Option.getD_none]
  cases hm : windowMode e.ws.dataBuf.len e.ws.instBuf.len e.ws.addrBuf.len with
  | standard =>
    have hsections := scanSections_standard e.ws.dataBuf.bytes e.ws.instBuf.bytes e.ws.addrBuf.bytes rest
    simp only [Memory.bytes_length] at hsections
    simp only [hsections, Scan.bind_ok]
  | interleaved =>
    obtain ⟨hdata, haddr⟩ := windowMode_interleaved hm
    rw [← Memory.bytes_length, List.length_eq_zero_iff] at hdata haddr
    simp only [scanSections, Scan.bind_ok, hdata, haddr, List.nil_append]

/-! ### The file header (R82) and the empty target (R153) -/

/-- R136: the doubling loop from a power of two reaches any need that the largest allowed power meets. -/
theorem growTable_isSome {need maxLog2 : Nat} (hneed : need ≤ 2 ^ maxLog2) (fuel k : Nat) (hk : k + fuel = maxLog2) :
    (growTable need maxLog2 fuel (2 ^ k)).isSome := by
  induction fuel generalizing k with
  | zero =>
    rw [← hk, Nat.add_zero] at hneed
    simp [growTable, hneed]
  | succ fuel ih =>
    have hpow : 2 ^ (k + 1) ≤ 2 ^ maxLog2 := Nat.pow_le_pow_right (by decide) (by omega)
    have hnext := ih (k + 1) (by omega)
    rw [Nat.pow_succ] at hpow hnext
    unfold growTable
    split
    · rfl
    · rw [if_neg (Nat.not_lt.mpr hpow)]
      exact hnext

/-- R136, R137: a dictionary within the index bound has an index. -/
theorem bhBuild_isSome {cfg : Cfg} {dict : Bytes} (h : dict.length / 4 + 1 ≤ 2 ^ cfg.tableMaxLog2) :
    ∃ x, bhBuild cfg dict = some x := by
  obtain ⟨size, hsize⟩ := Option.isSome_iff_exists.mp (growTable_isSome h cfg.tableMaxLog2 0 (Nat.zero_add _))
  have htable : tableSizeFor cfg.tableMaxLog2 dict.length = some size := hsize
  exact ⟨_, by simp only [bhBuild, htable]; rfl⟩

/-- R153 before the file header: under a checked configuration and a dictionary within its bounds, the set-up steps pass and write nothing. -/
theorem encodeStream_setUp {e : Encoder} (hcfg : checkEncodeCfg e.cfg = none) (hdict : e.dict.len ≤ varintMax)
    (hindex : e.dict.len / 4 + 1 ≤ 2 ^ e.cfg.tableMaxLog2) :
    ∃ e2 : Encoder, (e2.cfg = e.cfg ∧ e2.deltaOut = e.deltaOut ∧ e2.headerDone = e.headerDone ∧ e2.ws.ready = true) ∧
      ∀ target, encodeStream e target = (wsStreamHeader e2).bind fun e3 _ => encodeChunks target.length e3 target := by
  obtain ⟨x, hx⟩ := bhBuild_isSome (cfg := e.cfg) (dict := e.dict.bytes) (by simpa using hindex)
  have hbuild : e.initHash.buildIndex = .ok { e.initHash with index := x } () := by simp [Encoder.buildIndex, hx]
  refine ⟨{ e.initHash with
    index := x, map := imBuild e.cfg.codeTable
    ws := { e.ws.windowReset e.cfg with dictLen := e.dict.len, ready := true } }, ⟨rfl, rfl, rfl, rfl⟩, fun target => ?_⟩
  simp [encodeStream, hcfg, hbuild, wsInit, Nat.not_lt.mpr hdict, Encoder.liftWs, Encoder.buildMap]

/-- R82, R210: the header parser accepts the five bytes of a file header. -/
theorem scanFileHeader_written (cfg : Cfg) (rest : Bytes) :
    scanFileHeader ([0xD6, 0xC3, 0xC4, versionByte cfg, 0x00] ++ rest) = .ok (versionByte cfg) rest := by
  unfold versionByte
  split <;> rfl

/-- Settles O28: after the set-up an empty target has no chunk, so the header is all; a header already written stops every target (log 26). -/
theorem emptyTargetIsHeaderOnly : Obligations.EmptyTargetIsHeaderOnly := by
  intro e hcfg hdict hindex
  obtain ⟨e2, ⟨hcfg2, hout, hdone, hready⟩, hstream⟩ := encodeStream_setUp hcfg hdict hindex
  refine ⟨fun hnew => ⟨e2.writeHeader, ?_, rfl, ?_⟩, fun hold target => ⟨e2, ?_, hout⟩, scanFileHeader_written e.cfg⟩
  · rw [hstream]
    simp [wsStreamHeader, hready, hdone, hnew, encodeChunks]
  · simp [hout, hcfg2]
  · rw [hstream]
    simp [wsStreamHeader, hready, hdone, hold]

/-! ### Every instruction has a meaning (R91, R228 to R231, R250) -/

/-- A piece of a decode operation that meets no missing byte answers a next state. -/
theorem State.settle_next_of_ne_bad {s : State} {x : Act Decoder Unit} (h : ∀ f, x ≠ .bad f) : ∃ t, s.settle x = .next t := by
  cases x with
  | ok d _ => exact ⟨_, rfl⟩
  | eod d => exact ⟨_, rfl⟩
  | err d c => exact ⟨_, rfl⟩
  | bad f => exact absurd rfl (h f)

theorem State.inBody_not_refused (s : State) (k : Decoder → Act Decoder Unit) (r : Refusal) : s.inBody k ≠ .refused r := by
  unfold State.inBody
  split
  · nofun
  · exact State.settle_not_refused _ _ _

theorem State.inBody_next {s : State} {k : Decoder → Act Decoder Unit} (h : ∀ f, k s.dec ≠ .bad f) :
    ∃ t, s.inBody k = .next t := by
  cases hf : s.dec.failed with
  | some c => exact ⟨_, State.inBody_failed hf k⟩
  | none =>
    by_cases hs : s.dec.stage = .started
    · rw [State.inBody_running hf hs]
      exact State.settle_next_of_ne_bad h
    · exact ⟨_, State.inBody_outside hf hs k⟩

/-- Where the buffers and the `COPY` address space hold their bytes, no type of instruction meets a byte that does not exist. -/
theorem Decoder.perform_ne_bad {d : Decoder} (hbuf : d.buffersFit) (hcopy : d.copySpaceFits) (t : Triple) (f : Fault) :
    d.perform t ≠ .bad f := by
  obtain ⟨hliterals, haddresses⟩ := hbuf
  obtain ⟨hdict, hdecoded, hsegment⟩ := hcopy
  unfold Decoder.perform
  cases t.inst with
  | noop => nofun
  | add =>
    rcases d.doAdd_cases t.size with ⟨-, h⟩ | ⟨-, h⟩ <;> simp [h, Source.ranOut_eod hliterals]
  | run =>
    rcases d.doRun_cases t.size with ⟨_, _, -, h⟩ | ⟨-, h⟩ <;> simp [h, Source.ranOut_eod hliterals]
  | copy =>
    rcases d.doCopy_cases t.size t.mode with ⟨-, h⟩ | ⟨c, -, h⟩ | ⟨a, rest, cache, haddr, ⟨-, -, h⟩ | ⟨-, h⟩⟩
    · simp [h, Source.ranOut_eod haddresses]
    · simp [h]
    · simp [h]
    · obtain ⟨bs, hok, -⟩ := Decoder.copyFrom_total (x := a) (n := t.size)
        (d := Decoder.setAddressPos { d with cache := cache } (d.addresses.posAfter rest))
        (by simpa using hdict) (by simpa using hdecoded) (by simpa using hsegment)
        (by simpa [Decoder.here] using (AddrCache.decode_ok haddr).1)
      simp [h, hok]

theorem Decoder.needMore_ne_bad (d : Decoder) (f : Fault) : d.needMore ≠ .bad f := by
  rcases d.needMore_cases with ⟨-, h⟩ | ⟨-, -, h⟩ <;> simp [h]

theorem Decoder.issue_ne_bad {d : Decoder} (hbuf : d.buffersFit) (hcopy : d.copySpaceFits) (t : Triple) (f : Fault) :
    d.issue t ≠ .bad f := by
  by_cases hover : d.win.targetLen < d.decoded.len + t.size
  · simp [Decoder.issue_overrun hover]
  have hfit := Nat.not_lt.mp hover
  cases hm : d.win.mode with
  | standard =>
    have hperform := Decoder.perform_ne_bad hbuf hcopy t
    rw [Decoder.issue_standard hfit hm]
    cases hp : d.perform t with
    | ok d1 _ => nofun
    | eod d1 => exact d1.needMore_ne_bad f
    | err d1 c => nofun
    | bad f => exact absurd hp (hperform f)
  | interleaved =>
    have hperform := Decoder.perform_ne_bad (d := { d with pendingInst := some t }) hbuf hcopy t
    rw [Decoder.issue_interleaved hfit hm, Decoder.retry]
    cases hp : Decoder.perform { d with pendingInst := some t } t with
    | ok d1 _ => nofun
    | eod d1 => exact d1.needMore_ne_bad f
    | err d1 c => nofun
    | bad f => exact absurd hp (hperform f)

/-- A delivered instruction that completes leaves the buffers and the dictionary, and appends to what is decoded. -/
theorem Decoder.issue_keeps_fit {d d1 : Decoder} {t : Triple} (h : d.issue t = .ok d1 ()) (hbuf : d.buffersFit)
    (hcopy : d.copySpaceFits) : d1.buffersFit ∧ d1.copySpaceFits := by
  obtain ⟨hdict, hdecoded, hsegment⟩ := hcopy
  rcases d.issue_cases t with ⟨bs, dpos, apos, ipos, cache, h', -⟩ | ⟨-, -, -, h'⟩ | ⟨_, _, _, _, _, h', -⟩ | ⟨_, h'⟩ <;>
    rw [h'] at h <;> cases h
  refine ⟨?_, hdict, Memory.wf_append hdecoded bs, hsegment⟩
  simp only [Decoder.buffersFit, Decoder.literals, Decoder.addresses] at hbuf ⊢
  cases hm : d.win.mode <;> simpa [hm] using hbuf

/-- R231: the second half of a compound opcode finds the buffers as the first half did. -/
theorem Decoder.issuePair_ne_bad {d : Decoder} (hbuf : d.buffersFit) (hcopy : d.copySpaceFits) (op : Byte) (t u : Triple)
    (f : Fault) : d.issuePair op t u ≠ .bad f := by
  rw [Decoder.issuePair, Ne, Act.bind_eq_bad]
  rintro (h | ⟨d1, ⟨⟩, hok, h⟩)
  · exact Decoder.issue_ne_bad (d := { d with pendingSecond := some op }) hbuf hcopy t f h
  · split at h
    · cases h
    · obtain ⟨hbuf1, hcopy1⟩ := Decoder.issue_keeps_fit hok hbuf hcopy
      exact Decoder.issue_ne_bad (d := { d1 with pendingSecond := none }) hbuf1 hcopy1 u f h

theorem exec_not_refused (i : Instr) (s : State) (r : Refusal) : exec i s ≠ .refused r := by
  cases hi : i.second with
  | none =>
    rw [exec_single hi]
    exact State.inBody_not_refused s _ r
  | some u =>
    rw [exec_pair hi]
    exact State.inBody_not_refused s _ r

theorem exec_next {s : State} (hbuf : s.dec.buffersFit) (hcopy : s.dec.copySpaceFits) (i : Instr) :
    ∃ t, exec i s = .next t := by
  cases hi : i.second with
  | none =>
    rw [exec_single hi]
    exact State.inBody_next (Decoder.issue_ne_bad hbuf hcopy i.first)
  | some u =>
    rw [exec_pair hi]
    exact State.inBody_next (Decoder.issuePair_ne_bad hbuf hcopy _ i.first u)

/-- Settles O44: every instruction is a delivered triple or a pair of them, run in the body (R231). -/
theorem execAnswersNext : Obligations.ExecAnswersNext :=
  ⟨exec_not_refused, fun i _ hbuf hcopy => exec_next hbuf hcopy i⟩

end Sys2Proof.Machine
end

section
/-! PROOFS, family 40_varint.md. The law of the varint codec (spec/40_varint.md R103): how an encoding reads back under a limit, and that no encoding begins another; and what a read guarantees of its value (R102, R104). -/

namespace Sys2Proof

/-- R102: a limit that reaches the end of an encoding cuts only the bytes after it. -/
theorem varintDecode_take_of_le {max v n : Nat} (h : v ≤ max) (hn : varintLen v ≤ n) (rest : Bytes) :
    varintDecode max ((varintEncode v ++ rest).take n) = .ok v (rest.take (n - varintLen v)) := by
  have hcut : (varintEncode v ++ rest).take n = varintEncode v ++ rest.take (n - varintLen v) := by
    rw [List.take_append, varintEncode_length, List.take_of_length_le (by rwa [varintEncode_length])]
  rw [hcut, varintDecode_encode h]

/-- R102: a limit inside an encoding ends the read with `EOD`. -/
theorem varintDecode_take_of_lt {max v n : Nat} (h : v ≤ max) (hn : n < varintLen v) (rest : Bytes) :
    varintDecode max ((varintEncode v ++ rest).take n) = .eod := by
  obtain ⟨hpos, hlt, -⟩ := varintLen_bounds v
  have hread := varintDecodeFrom_groups_short max v h (varintLen v - 1) n (by omega)
  rw [Nat.sub_add_cancel hpos, Nat.div_eq_of_lt hlt] at hread
  rw [List.take_append_of_le_length (by rw [varintEncode_length]; exact hn.le)]
  exact hread

/-- R103: the encodings are prefix-free, since the bytes of the longer one would read as both values. -/
theorem eq_of_varintEncode_prefix {v w : Nat} (h : varintEncode v <+: varintEncode w) : v = w := by
  obtain ⟨tail, htail⟩ := h
  have hv := varintDecode_encode (Nat.le_max_left v w) tail
  have hw := varintDecode_encode (Nat.le_max_right v w) []
  rw [htail] at hv
  rw [List.append_nil, hv] at hw
  exact (VarintRead.ok.inj hw).1

/-- Settles O6: the read under a limit on either side of the encoding's length, and prefix-freedom from the round trip. -/
theorem varintRoundTrip : Obligations.VarintRoundTrip := fun _ v rest h =>
  ⟨varintEncode_length v, fun _ hn => varintDecode_take_of_le h hn rest, fun _ hn => varintDecode_take_of_lt h hn rest,
    fun _ => eq_of_varintEncode_prefix⟩

/-- Settles O8: R102's loop keeps its value a multiple of 128 within the bound, and begins with 0. -/
theorem varintDecodedBound : Obligations.VarintDecodedBound := by
  intro max v bs rest hmax hread
  exact varintDecodeFrom_ok max hmax bs 0 v rest (Nat.zero_le max) rfl hread

end Sys2Proof
end

section
/-! PROOFS, family 41_address_cache.md. How an address is written (spec/41_address_cache.md R113), how each mode reads back (R114), the agreement of the two caches (R115, R116), and the `COPY` whose address is refused (spec/49_body_decoder.md R230, R240). -/

namespace Sys2Proof.Machine

/-! ### `AC_ENCODE` (R113) -/

theorem AddrCache.encode_of_lt {a here : Nat} (h : a < here) (cfg : Cfg) (c : AddrCache) :
    c.encode cfg a here = some (c.field cfg a here, c.update cfg a) :=
  if_pos h

theorem AddrCache.encode_of_ge {a here : Nat} (h : here ≤ a) (cfg : Cfg) (c : AddrCache) : c.encode cfg a here = none :=
  if_neg (Nat.not_lt.mpr h)

theorem AddrCache.field_of_hit {cfg : Cfg} {c : AddrCache} {a : Nat} (h : c.same.getD (a % (cfg.sameSize * 256)) 0 = a)
    (here : Nat) : c.field cfg a here =
      ⟨2 + cfg.nearSize + a % (cfg.sameSize * 256) / 256, a % (cfg.sameSize * 256) % 256, true⟩ :=
  if_pos h

theorem AddrCache.field_of_miss {cfg : Cfg} {c : AddrCache} {a : Nat} (h : c.same.getD (a % (cfg.sameSize * 256)) 0 ≠ a)
    (here : Nat) : c.field cfg a here = ⟨(c.bestMode a here).1, (c.bestMode a here).2, false⟩ :=
  if_neg h

/-- An address is written as one byte exactly when its `SAME` entry holds it. -/
theorem AddrCache.field_isByte_iff (cfg : Cfg) (c : AddrCache) (a here : Nat) :
    (c.field cfg a here).isByte = true ↔ c.same.getD (a % (cfg.sameSize * 256)) 0 = a := by
  by_cases h : c.same.getD (a % (cfg.sameSize * 256)) 0 = a
  · exact iff_of_true (by rw [AddrCache.field_of_hit h]) h
  · exact iff_of_false (by simp [AddrCache.field_of_miss h]) h

/-- R113's comparison starts from the smaller of `SELF` and `HERE`, `SELF` on a tie, and leaves it only for a near slot of a smaller value. -/
theorem AddrCache.bestMode_cases (c : AddrCache) (a here : Nat) :
    ∃ first : Nat × Nat, (first = (0, a) ∧ a ≤ here - a ∨ first = (1, here - a) ∧ here - a < a) ∧
      (c.bestMode a here = first ∨
        (∃ i n, c.near[i]? = some n ∧ n ≤ a ∧ c.bestMode a here = (2 + i, a - n)) ∧ (c.bestMode a here).2 < first.2) ∧
      ∀ i n, c.near[i]? = some n → n ≤ a →
        (c.bestMode a here).2 < a - n ∨ ((c.bestMode a here).2 = a - n ∧ (c.bestMode a here).1 ≤ 2 + i) := by
  have compare (first : Nat × Nat) (hmode : first.1 = 0 ∨ first.1 = 1) :=
    nearBest_spec a c.near c.near 0 first (by simp) (by tauto) (by omega) (by simp)
  by_cases h : here - a < a
  · obtain ⟨hfrom, hle, hnear⟩ := compare (1, here - a) (.inr rfl)
    have hbest : c.bestMode a here = nearBest a c.near 0 (1, here - a) := by simp [AddrCache.bestMode, h]
    rw [hbest]
    exact ⟨_, .inr ⟨rfl, h⟩, by tauto, hnear⟩
  · obtain ⟨hfrom, hle, hnear⟩ := compare (0, a) (.inl rfl)
    have hbest : c.bestMode a here = nearBest a c.near 0 (0, a) := by simp [AddrCache.bestMode, h]
    rw [hbest]
    exact ⟨_, .inl ⟨rfl, Nat.not_lt.mp h⟩, by tauto, hnear⟩

theorem AddrCache.bestMode_candidate (c : AddrCache) (a here : Nat) :
    c.candidate a here (c.bestMode a here).1 (c.bestMode a here).2 := by
  obtain ⟨first, hfirst, hbest | ⟨⟨i, n, hn, hle, hbest⟩, -⟩, -⟩ := c.bestMode_cases a here
  · rcases hfirst with ⟨rfl, -⟩ | ⟨rfl, -⟩ <;> rw [hbest]
    · exact .inl ⟨rfl, rfl⟩
    · exact .inr (.inl ⟨rfl, rfl⟩)
  · rw [hbest]
    exact .inr (.inr ⟨i, n, hn, hle, rfl, rfl⟩)

/-- The chosen value is the least of the candidates, and its mode the earliest among equal values. -/
theorem AddrCache.bestMode_least {c : AddrCache} {a here m v : Nat} (h : c.candidate a here m v) :
    (c.bestMode a here).2 < v ∨ ((c.bestMode a here).2 = v ∧ (c.bestMode a here).1 ≤ m) := by
  obtain ⟨first, hfirst, hbest, hnear⟩ := c.bestMode_cases a here
  have hfirstLeast : ((c.bestMode a here).1 = first.1 ∧ (c.bestMode a here).2 = first.2) ∨ (c.bestMode a here).2 < first.2 :=
    hbest.imp Prod.ext_iff.mp And.right
  rcases h with ⟨rfl, rfl⟩ | ⟨rfl, rfl⟩ | ⟨i, n, hn, hle, rfl, rfl⟩
  · rcases hfirst with ⟨rfl, -⟩ | ⟨rfl, hcloser⟩ <;> dsimp only at hfirstLeast <;> omega
  · rcases hfirst with ⟨rfl, hcloser⟩ | ⟨rfl, -⟩ <;> dsimp only at hfirstLeast <;> omega
  · exact hnear i n hn hle

/-- Settles O9: the three cases are the range test, the `SAME` test and the comparison of R113. -/
theorem encodeAddressChoice : Obligations.EncodeAddressChoice := by
  intro cfg c a here
  refine ⟨fun hge => ⟨AddrCache.encode_of_ge hge cfg c, fun s side hs => ?_⟩, fun hlt hhit => ?_, fun hlt hmiss => ?_⟩
  · simp only [State.opAcEncode, hs, AddrCache.encode_of_ge hge]
  · rw [AddrCache.encode_of_lt hlt, AddrCache.field_of_hit hhit]
  · refine ⟨_, _, ?_, c.bestMode_candidate a here, fun m v => AddrCache.bestMode_least⟩
    rw [AddrCache.encode_of_lt hlt, AddrCache.field_of_miss hmiss]

/-! ### `AC_DECODE` (R114) -/

theorem AddrCache.accept_of_lt {a here : Nat} (h : a < here) (cfg : Cfg) (c : AddrCache) (rest : Bytes) :
    c.accept cfg here a rest = .ok a rest (c.update cfg a) :=
  if_pos h

theorem AddrCache.accept_ok_rest {cfg : Cfg} {c c1 : AddrCache} {a a1 here : Nat} {bs rest : Bytes}
    (h : c.accept cfg here a bs = .ok a1 rest c1) : bs = rest := by
  unfold AddrCache.accept at h
  split at h
  · cases h; rfl
  · cases h

/-- `SAME[j]` reads one byte. -/
theorem AddrCache.decode_same {cfg : Cfg} {j : Nat} (h : j < cfg.sameSize) (c : AddrCache) (here : Nat) (b : Byte) (rest : Bytes) :
    c.decode cfg (2 + cfg.nearSize + j) here (b :: rest) = c.accept cfg here (c.same.getD (j * 256 + b.toNat) 0) rest := by
  have hindex : 2 + cfg.nearSize + j - 2 - cfg.nearSize = j := by omega
  simp only [AddrCache.decode, hindex]
  rw [if_neg (by omega), if_pos (by omega)]

section
variable {cfg : Cfg} {bs rest : Bytes} {v : Nat} (hread : varintDecode varintMax bs = .ok v rest)
include hread

/-- `SELF` reads the address itself. -/
theorem AddrCache.decode_self (c : AddrCache) (here : Nat) : c.decode cfg 0 here bs = c.accept cfg here v rest := by
  have hmode : ¬ 2 + cfg.nearSize + cfg.sameSize ≤ 0 ∧ ¬ 2 + cfg.nearSize ≤ 0 := by omega
  simp [AddrCache.decode, hmode, hread]

/-- `HERE` reads the distance back from `here`. -/
theorem AddrCache.decode_here {here : Nat} (h : v ≤ here) (c : AddrCache) :
    c.decode cfg 1 here bs = c.accept cfg here (here - v) rest := by
  have hmode : ¬ 2 + cfg.nearSize + cfg.sameSize ≤ 1 ∧ ¬ 2 + cfg.nearSize ≤ 1 := by omega
  simp [AddrCache.decode, hmode, hread, Nat.not_lt.mpr h]

/-- A near slot reads the distance above its address. -/
theorem AddrCache.decode_near {i n : Nat} {c : AddrCache} (hi : i < cfg.nearSize) (hn : c.near[i]? = some n) (here : Nat) :
    c.decode cfg (2 + i) here bs = c.accept cfg here (n + v) rest := by
  have hmode : ¬ 2 + cfg.nearSize + cfg.sameSize ≤ 2 + i ∧ ¬ 2 + cfg.nearSize ≤ 2 + i := by omega
  simp [AddrCache.decode, hmode, hread, hn, show 2 + i ≠ 1 by omega]

end

/-- A decoded mode exists, and its field is one byte in a `SAME` mode and a varint in the others. -/
theorem AddrCache.decode_ok_field {cfg : Cfg} {c c1 : AddrCache} {mode here a : Nat} {bs rest : Bytes}
    (h : c.decode cfg mode here bs = .ok a rest c1) :
    mode < 2 + cfg.nearSize + cfg.sameSize ∧
      ((2 + cfg.nearSize ≤ mode ∧ ∃ b, bs = b :: rest) ∨
        (mode < 2 + cfg.nearSize ∧ ∃ v, varintDecode varintMax bs = .ok v rest)) := by
  unfold AddrCache.decode at h
  split at h
  · cases h
  refine ⟨by omega, ?_⟩
  split at h
  · split at h
    · cases h
    · exact .inl ⟨‹_›, _, by rw [AddrCache.accept_ok_rest h]⟩
  · refine .inr ⟨by omega, ?_⟩
    split at h
    · cases h
    · cases h
    next v tail hread =>
      have hrest : tail = rest := by
        split at h
        · exact AddrCache.accept_ok_rest h
        split at h
        · split at h
          · cases h
          · exact AddrCache.accept_ok_rest h
        · exact AddrCache.accept_ok_rest h
      exact ⟨v, hrest ▸ hread⟩

/-- Settles O12: the address and the cache from `AddrCache.decode_ok`, the field by the kind of its mode. -/
theorem decodedAddress : Obligations.DecodedAddress := by
  intro cfg c c1 mode here a bs rest h
  obtain ⟨hlt, rfl⟩ := AddrCache.decode_ok h
  obtain ⟨hmode, hfield⟩ := AddrCache.decode_ok_field h
  refine ⟨hlt, hmode, rfl, rfl, rfl, ?_⟩
  rcases hfield with ⟨-, b, rfl⟩ | ⟨hvarint, v, hread⟩
  · exact ⟨[b], rfl, by simp, fun _ => rfl⟩
  · obtain ⟨-, used, hbs, hne, -⟩ := varintDecodedBound varintMax v bs rest (by decide) hread
    exact ⟨used, hbs, hne, fun hsame => absurd hsame (by omega)⟩

/-! ### What is written reads back (R115, R116) -/

/-- Every candidate of R113 whose value the varint can carry reads back as the address. -/
theorem AddrCache.decode_candidate {cfg : Cfg} {c : AddrCache} {a here m v : Nat} (hnear : c.near.length = cfg.nearSize)
    (ha : a < here) (hc : c.candidate a here m v) (hv : v ≤ varintMax) (rest : Bytes) :
    c.decode cfg m here (varintEncode v ++ rest) = .ok a rest (c.update cfg a) := by
  have hread := varintDecode_encode hv rest
  rw [← AddrCache.accept_of_lt ha]
  rcases hc with ⟨rfl, rfl⟩ | ⟨rfl, rfl⟩ | ⟨i, n, hn, hle, rfl, rfl⟩
  · exact AddrCache.decode_self hread c here
  · rw [AddrCache.decode_here hread (Nat.sub_le _ _), Nat.sub_sub_self ha.le]
  · have hi : i < cfg.nearSize := hnear ▸ (List.getElem?_eq_some_iff.mp hn).1
    rw [AddrCache.decode_near hread hi hn, Nat.add_sub_cancel' hle]

/-- A `SAME` hit reads back as the address. -/
theorem AddrCache.decode_hit {cfg : Cfg} {c : AddrCache} {a here : Nat} (hsame : 1 ≤ cfg.sameSize) (ha : a < here)
    (hhit : c.same.getD (a % (cfg.sameSize * 256)) 0 = a) (rest : Bytes) :
    c.decode cfg (2 + cfg.nearSize + a % (cfg.sameSize * 256) / 256) here
      (BitVec.ofNat 8 (a % (cfg.sameSize * 256) % 256) :: rest) = .ok a rest (c.update cfg a) := by
  have hkey : a % (cfg.sameSize * 256) < cfg.sameSize * 256 := Nat.mod_lt _ (by omega)
  rw [AddrCache.decode_same (Nat.div_lt_of_lt_mul (by omega)), byte_toNat (Nat.mod_lt _ (by decide)),
    Nat.div_add_mod' _ 256, hhit, AddrCache.accept_of_lt ha]

/-- `AC_DECODE` of the field `AC_ENCODE` writes gives the address and leaves the cache `AC_ENCODE` leaves. -/
theorem AddrCache.decode_field {cfg : Cfg} {c : AddrCache} {a here : Nat} (hsame : 1 ≤ cfg.sameSize)
    (hnear : c.near.length = cfg.nearSize) (ha : a < here)
    (hv : (c.field cfg a here).isByte = false → (c.field cfg a here).value ≤ varintMax) (rest : Bytes) :
    c.decode cfg (c.field cfg a here).mode here ((c.field cfg a here).bytes ++ rest) = .ok a rest (c.update cfg a) := by
  by_cases hhit : c.same.getD (a % (cfg.sameSize * 256)) 0 = a
  · rw [AddrCache.field_of_hit hhit]
    exact AddrCache.decode_hit hsame ha hhit rest
  · rw [AddrCache.field_of_miss hhit] at hv ⊢
    exact AddrCache.decode_candidate hnear ha (c.bestMode_candidate a here) (hv rfl) rest

/-- From any cache with `NEAR_SIZE` near slots, by induction on the sequence: `AC_UPDATE` keeps the number of slots, and both sides update the cache with the same address. -/
theorem decodeAddresses_encodeAddresses {cfg : Cfg} (hsame : 1 ≤ cfg.sameSize) (copies : List (Nat × Nat)) (c : AddrCache)
    (hnear : c.near.length = cfg.nearSize) (hlt : ∀ p ∈ copies, p.1 < p.2) :
    ∃ fields c1, encodeAddresses cfg c copies = some (fields, c1) ∧
      ((∀ f ∈ fields, f.isByte = false → f.value ≤ varintMax) →
        decodeAddresses cfg c (fields.zip (copies.map Prod.snd)) = some (copies.map Prod.fst, c1)) := by
  induction copies generalizing c with
  | nil => exact ⟨[], c, rfl, fun _ => rfl⟩
  | cons copy more ih =>
    obtain ⟨a, here⟩ := copy
    obtain ⟨ha, hmore⟩ := List.forall_mem_cons.mp hlt
    obtain ⟨fields, c1, henc, hdec⟩ := ih (c.update cfg a) (by simpa [AddrCache.update] using hnear) hmore
    refine ⟨c.field cfg a here :: fields, c1, ?_, fun hvalues => ?_⟩
    · simp only [encodeAddresses, AddrCache.encode_of_lt ha, henc]
    · obtain ⟨hv, hvs⟩ := List.forall_mem_cons.mp hvalues
      have hfield := AddrCache.decode_field hsame hnear ha hv []
      rw [List.append_nil] at hfield
      simp only [List.map_cons, List.zip_cons_cons, decodeAddresses, hfield, hdec hvs]

/-- Settles O11: `AC_RESET` makes `NEAR_SIZE` near slots. -/
theorem cachesAgree : Obligations.CachesAgree := by
  intro cfg copies hsame hlt
  exact decodeAddresses_encodeAddresses hsame copies (acReset cfg) List.length_replicate hlt

/-- Settles O10: after a reset every `SAME` entry is 0, so the entry of an address holds it exactly when the address is 0. -/
theorem addressZeroAfterReset : Obligations.AddressZeroAfterReset := by
  intro cfg a here hsame ha
  have hzero : (acReset cfg).same.getD (0 % (cfg.sameSize * 256)) 0 = 0 := acReset_same cfg _
  refine ⟨fun c => (c.field_isByte_iff cfg a here).mpr, ?_, ?_, fun rest => ?_⟩
  · rw [AddrCache.field_isByte_iff, acReset_same, eq_comm]
  · rintro rfl
    rw [AddrCache.encode_of_lt ha, AddrCache.field_of_hit hzero]
    simp
  · simpa using AddrCache.decode_hit hsame (Nat.zero_lt_of_lt ha) hzero rest

/-! ### A `COPY` whose address is refused (R230, R240) -/

@[simp] theorem Decoder.recorded_cache (d : Decoder) (t : Triple) : (d.recorded t).cache = d.cache := by
  unfold Decoder.recorded; split <;> rfl
@[simp] theorem Decoder.recorded_cfg (d : Decoder) (t : Triple) : (d.recorded t).cfg = d.cfg := by
  unfold Decoder.recorded; split <;> rfl
@[simp] theorem Decoder.recorded_win (d : Decoder) (t : Triple) : (d.recorded t).win = d.win := by
  unfold Decoder.recorded; split <;> rfl
@[simp] theorem Decoder.recorded_decoded (d : Decoder) (t : Triple) : (d.recorded t).decoded = d.decoded := by
  unfold Decoder.recorded; split <;> rfl
@[simp] theorem Decoder.recorded_failed (d : Decoder) (t : Triple) : (d.recorded t).failed = d.failed := by
  unfold Decoder.recorded; split <;> rfl
@[simp] theorem Decoder.recorded_here (d : Decoder) (t : Triple) : (d.recorded t).here = d.here := by
  simp [Decoder.here]
@[simp] theorem Decoder.recorded_addresses (d : Decoder) (t : Triple) : (d.recorded t).addresses = d.addresses := by
  unfold Decoder.recorded; split <;> rfl

@[simp] theorem Decoder.underway_cache (d : Decoder) (i : Instr) : (d.underway i).cache = d.cache := by
  unfold Decoder.underway; split <;> rfl
@[simp] theorem Decoder.underway_decoded (d : Decoder) (i : Instr) : (d.underway i).decoded = d.decoded := by
  unfold Decoder.underway; split <;> rfl
@[simp] theorem Decoder.underway_failed (d : Decoder) (i : Instr) : (d.underway i).failed = d.failed := by
  unfold Decoder.underway; split <;> rfl

/-- An error of `Exec` is the error of the delivered instruction, recorded as pending in an interleaved window (R227, R235). -/
theorem Decoder.issue_err {d d1 : Decoder} {t : Triple} {c : Cause} (hfit : d.decoded.len + t.size ≤ d.win.targetLen)
    (h : (d.recorded t).perform t = .err d1 c) : d.issue t = .err d1 c := by
  cases hm : d.win.mode <;> simp only [Decoder.recorded, hm] at h
  · rw [Decoder.issue_standard hfit hm, h]
  · rw [Decoder.issue_interleaved hfit hm, Decoder.retry, h]

/-- `COPY` raises the error of `AC_DECODE` with nothing changed (R114, R230). -/
theorem Decoder.perform_copy_refused {d : Decoder} {t : Triple} {c : Cause} (ht : t.inst = .copy)
    (h : d.cache.decode d.cfg t.mode d.here d.addresses.bytes = .err c) : d.perform t = .err d c := by
  simp [Decoder.perform, ht, Decoder.doCopy, h]

/-- `COPY` of bytes that `TARGET_COPY_MODE = refuse` does not admit raises `COPY_RANGE`, with the cache updated (R240). -/
theorem Decoder.perform_copy_range {d : Decoder} {t : Triple} {a : Nat} {rest : Bytes} {cache : AddrCache} (ht : t.inst = .copy)
    (h : d.cache.decode d.cfg t.mode d.here d.addresses.bytes = .ok a rest cache) (hmode : d.cfg.targetCopyMode = .refuse)
    (hrange : d.win.srcSegLen < a + t.size) :
    d.perform t = .err (Decoder.setAddressPos { d with cache := cache } (d.addresses.posAfter rest)) .copyRange := by
  simp [Decoder.perform, ht, Decoder.doCopy, h, hmode, hrange]

/-- Settles O43: both refusals are errors of `Exec`, which the first instruction of an opcode raises. -/
theorem copyRefused : Obligations.CopyRefused := by
  intro i s hcopy hrun hfit
  refine ⟨fun c hc => ?_, fun a rest cache ha hmode hrange => ?_⟩
  · exact exec_err hrun (Decoder.issue_err hfit (Decoder.perform_copy_refused hcopy (by simpa using hc)))
  · have herr := Decoder.perform_copy_range (d := s.dec.recorded i.first) hcopy (by simpa using ha) (by simpa using hmode)
      (by simpa using hrange)
    refine ⟨_, exec_err hrun (Decoder.issue_err hfit herr), ?_, ?_, ?_⟩
    · simp [hrun.1]
    · simp
    · simp

end Sys2Proof.Machine
end

section
/-! PROOFS, family 42_rolling_hash.md. The hash of a window is its polynomial (spec/42_rolling_hash.md R125, R127), and a roll is the hash of the next window (R126, R128, R129). -/

namespace Sys2Proof.Machine

/-! ### `RH_HASH` (R125, R127) -/

theorem rhHash_lt (c : Nat) (bs : Bytes) : rhHash c bs < hashMod := by
  obtain rfl | ⟨init, b, rfl⟩ := bs.eq_nil_or_concat'
  · simp [rhHash, hashFrom, hashMod]
  · rw [rhHash_snoc]
    exact Nat.mod_lt _ (by decide)

/-- Settles O13: the hash is reduced, and modulo `2^23` it is the polynomial, by Horner's loop from 0. -/
theorem hashIsPolynomial : Obligations.HashIsPolynomial := by
  intro c bs
  have hlt := rhHash_lt c bs
  refine ⟨?_, hlt⟩
  calc rhHash c bs = hashFrom c 0 bs % hashMod := (Nat.mod_eq_of_lt hlt).symm
    _ = _ := by simpa [hashMod] using hashFrom_eq c bs 0

/-! ### `RH_INIT` and `RH_ROLL` (R126, R128, R129) -/

theorem rhInit_getD (blockSize c : Nat) (b : Byte) :
    (rhInit blockSize c).getD b.toNat 0 = removeEntry blockSize c b.toNat := by
  simp [rhInit, List.getD_eq_getElem?_getD, b.isLt]

/-- R126: an entry is the additive inverse of the contribution of a window's first byte. -/
theorem removeEntry_inverse (n c b : Nat) : b * c ^ n + removeEntry (n + 1) c b ≡ 0 [MOD hashMod] := by
  have hterm : c ^ n % hashMod * b % hashMod = b * c ^ n % hashMod := by rw [Nat.mod_mul_mod, Nat.mul_comm]
  have hlt : b * c ^ n % hashMod < hashMod := Nat.mod_lt _ (by decide)
  simp only [Nat.ModEq, removeEntry, Nat.succ_ne_zero, if_false, Nat.add_sub_cancel, hterm]
  rw [Nat.add_mod_mod, ← Nat.mod_add_mod, Nat.add_sub_cancel' hlt.le]
  simp

/-- R128: the entry of the byte that leaves cancels its term, and one Horner step takes in the byte that enters. -/
theorem rhRoll_window (c : Nat) (out new : Byte) (mid : Bytes) :
    rhRoll (rhInit (mid.length + 1) c) c (rhHash c (out :: mid)) out new = rhHash c (mid ++ [new]) := by
  have hcancel : rhHash c (out :: mid) + removeEntry (mid.length + 1) c out.toNat ≡ rhHash c mid [MOD hashMod] :=
    calc rhHash c (out :: mid) + removeEntry (mid.length + 1) c out.toNat
      _ ≡ out.toNat * c ^ mid.length + rhHash c mid + removeEntry (mid.length + 1) c out.toNat [MOD hashMod] :=
        Nat.ModEq.add_right _ (rhHash_cons c out mid)
      _ = out.toNat * c ^ mid.length + removeEntry (mid.length + 1) c out.toNat + rhHash c mid := by ac_rfl
      _ ≡ 0 + rhHash c mid [MOD hashMod] := (removeEntry_inverse mid.length c out.toNat).add_right _
      _ = rhHash c mid := Nat.zero_add _
  rw [rhRoll, rhInit_getD, rhHash_snoc]
  exact (hcancel.mul_right c).add_right new.toNat

/-- Two windows one byte apart share all but the first byte of the one and the last byte of the other. -/
theorem adjacent_windows {n off : Nat} {buf : Bytes} (h : off + (n + 1) < buf.length) :
    (buf.drop off).take (n + 1) = buf.getD off 0 :: (buf.drop (off + 1)).take n ∧
      (buf.drop (off + 1)).take (n + 1) = (buf.drop (off + 1)).take n ++ [buf.getD (off + (n + 1)) 0] := by
  constructor
  · rw [List.drop_eq_getElem_cons (by omega), List.take_succ_cons, List.getD_eq_getElem _ _ (by omega)]
  · rw [List.take_add_one, List.getElem?_drop, show off + 1 + n = off + (n + 1) by omega, List.getElem?_eq_getElem h,
      List.getD_eq_getElem _ _ h, Option.toList_some]

/-- Settles O14: both windows are cut at the bytes they share, and the roll exchanges the other two. -/
theorem rollEqualsRehash : Obligations.RollEqualsRehash := by
  intro c blockSize off buf hpos hfit
  obtain ⟨n, rfl⟩ := Nat.exists_eq_add_one_of_ne_zero (Nat.one_le_iff_ne_zero.mp hpos)
  obtain ⟨hwindow, hnext⟩ := adjacent_windows (n := n) (off := off) (buf := buf) (by omega)
  have hlen : ((buf.drop (off + 1)).take n).length = n := by simp; omega
  have hroll := rhRoll_window c (buf.getD off 0) (buf.getD (off + (n + 1)) 0) ((buf.drop (off + 1)).take n)
  rwa [hlen, ← hwindow, ← hnext] at hroll

end Sys2Proof.Machine
end

section
/-! PROOFS, family 43_block_hash.md. The size of the hash table (spec/43_block_hash.md R136), the chains of the dictionary index after the build (R137; spec/70_reset_and_hazards.md R287), and what a match that `BH_FIND` returns guarantees (R138 to R141, R143). -/

namespace Sys2Proof.Machine

/-! ### The table size (R136) -/

/-- R136: the doubling loop from `2^k` takes the first power of two from there on that is enough. -/
theorem growTable_pow {need maxLog2 : Nat} (fuel k : Nat) (hk : k + fuel = maxLog2) :
    growTable need maxLog2 fuel (2 ^ k) =
      ((List.range' k (fuel + 1)).find? fun i => decide (need ≤ 2 ^ i)).map (2 ^ ·) := by
  induction fuel generalizing k with
  | zero =>
    obtain rfl : k = maxLog2 := hk
    by_cases h : need ≤ 2 ^ k <;> simp [growTable, h]
  | succ fuel ih =>
    have hpow : 2 ^ (k + 1) ≤ 2 ^ maxLog2 := Nat.pow_le_pow_right (by decide) (by omega)
    have hnext := ih (k + 1) (by omega)
    rw [Nat.pow_succ] at hpow hnext
    rw [List.range'_succ]
    by_cases h : need ≤ 2 ^ k <;> simp [growTable, h, Nat.not_lt.mpr hpow, hnext]

theorem tableSizeFor_eq (maxLog2 dictLen : Nat) :
    tableSizeFor maxLog2 dictLen =
      ((List.range (maxLog2 + 1)).find? fun i => decide (dictLen / 4 + 1 ≤ 2 ^ i)).map (2 ^ ·) := by
  rw [List.range_eq_range']
  exact growTable_pow maxLog2 0 (Nat.zero_add _)

/-- Settles O15: the size is the first sufficient power in `2^0 .. 2^maxLog2`, and none of them is sufficient exactly when the last is not. -/
theorem tableSizeIsSmallest : Obligations.TableSizeIsSmallest := by
  intro maxLog2 dictLen
  rw [tableSizeFor_eq]
  constructor
  · intro t
    simp only [Option.map_eq_some_iff, List.find?_range_eq_some, List.mem_range, decide_eq_true_eq, Bool.not_eq_true',
      decide_eq_false_iff_not, Nat.not_le]
    constructor
    · rintro ⟨k, ⟨hneed, hk, hleast⟩, rfl⟩
      exact ⟨k, Nat.le_of_lt_succ hk, rfl, hneed, hleast⟩
    · rintro ⟨k, hk, rfl, hneed, hleast⟩
      exact ⟨k, ⟨hneed, Nat.lt_succ_of_le hk, hleast⟩, rfl⟩
  · simp only [Option.map_eq_none_iff, List.find?_eq_none, List.mem_range, decide_eq_true_eq, Nat.not_le]
    constructor
    · exact fun h => h maxLog2 (Nat.lt_succ_self _)
    · exact fun h i hi => (Nat.pow_le_pow_right (by decide) (Nat.le_of_lt_succ hi)).trans_lt h

/-! ### The chains (R137, R287) -/

/-- R137: the bucket of block `b` in a table of `tableSize` buckets. -/
def bucketOf (cfg : Cfg) (dict : Bytes) (tableSize b : Nat) : Nat :=
  rhHash cfg.hashMult (blockBytes cfg.blockSize dict b) % tableSize

/-- The blocks below `n` whose bucket is `j`, ascending. -/
def bucketBelow (cfg : Cfg) (dict : Bytes) (tableSize j n : Nat) : List Nat :=
  (List.range n).filter fun b => bucketOf cfg dict tableSize b == j

theorem bucketBelow_all (cfg : Cfg) (dict : Bytes) (tableSize j : Nat) :
    bucketBelow cfg dict tableSize j (dict.length / cfg.blockSize) = bucketBlocks cfg dict tableSize j := rfl

theorem mem_bucketBelow {cfg : Cfg} {dict : Bytes} {tableSize j n b : Nat} :
    b ∈ bucketBelow cfg dict tableSize j n ↔ b < n ∧ bucketOf cfg dict tableSize b = j := by
  simp [bucketBelow]

theorem bucketBelow_nodup (cfg : Cfg) (dict : Bytes) (tableSize j n : Nat) : (bucketBelow cfg dict tableSize j n).Nodup :=
  List.nodup_range.filter _

theorem bucketBelow_length_le (cfg : Cfg) (dict : Bytes) (tableSize j n : Nat) :
    (bucketBelow cfg dict tableSize j n).length ≤ n := by
  simpa [bucketBelow] using List.length_filter_le (fun b => bucketOf cfg dict tableSize b == j) (List.range n)

theorem bucketBelow_succ (cfg : Cfg) (dict : Bytes) (tableSize j n : Nat) :
    bucketBelow cfg dict tableSize j (n + 1) =
      if bucketOf cfg dict tableSize n = j then bucketBelow cfg dict tableSize j n ++ [n]
      else bucketBelow cfg dict tableSize j n := by
  by_cases h : bucketOf cfg dict tableSize n = j <;> simp [bucketBelow, List.range_succ, h]

theorem getD_set_self {α : Type} {l : List α} {i : Nat} (h : i < l.length) (a d : α) : (l.set i a).getD i d = a := by
  simp [List.getD_eq_getElem?_getD, h]

theorem getD_set_ne {α : Type} {l : List α} {i k : Nat} (h : i ≠ k) (a d : α) : (l.set i a).getD k d = l.getD k d := by
  simp [List.getD_eq_getElem?_getD, h]

/-- A chain starts at the first block of its list, if there is one. -/
theorem Linked.head?_eq {next : List (Option Nat)} {st : Option Nat} {l : List Nat} (h : Linked next st l) : st = l.head? := by
  cases st <;> cases l <;> simp_all [Linked]

/-- R137: bucket `j` holds the chain of the blocks `l`, and the last of them is known at the head. -/
structure BlockIndex.HasChain (x : BlockIndex) (j : Nat) (l : List Nat) : Prop where
  linked : Linked x.nextBlock (x.hashTable.getD j none) l
  last   : ∀ f, x.hashTable.getD j none = some f → x.lastBlock.getD f none = l.getLast?

/-- A write outside the bucket and outside the blocks of its chain leaves the chain. -/
theorem BlockIndex.HasChain.congr {x y : BlockIndex} {j : Nat} {l : List Nat} (h : x.HasChain j l)
    (hhead : y.hashTable.getD j none = x.hashTable.getD j none)
    (hlinks : ∀ b ∈ l, y.nextBlock.getD b none = x.nextBlock.getD b none ∧ y.lastBlock.getD b none = x.lastBlock.getD b none) :
    y.HasChain j l where
  linked := hhead ▸ h.linked.congr _ _ fun b hb => (hlinks b hb).1
  last f hf := by
    rw [hhead] at hf
    have hmem : f ∈ l := List.mem_of_mem_head? (h.linked.head?_eq ▸ hf)
    exact (hlinks f hmem).2.trans (h.last f hf)

/-- R137: the first block of a bucket is its head and its last. -/
theorem BlockIndex.HasChain.first {x : BlockIndex} {j b : Nat} (hj : j < x.hashTable.length) (hb : b < x.lastBlock.length)
    (hfresh : x.nextBlock.getD b none = none) :
    { x with hashTable := x.hashTable.set j (some b), lastBlock := x.lastBlock.set b (some b) }.HasChain j [b] where
  linked := by
    simp only [getD_set_self hj]
    exact ⟨rfl, by rw [hfresh]; trivial⟩
  last f hf := by
    obtain rfl : b = f := Option.some.inj ((getD_set_self hj _ _).symm.trans hf)
    exact getD_set_self hb _ _

/-- R137: a further block is linked from the last one and is the last from then on. -/
theorem BlockIndex.HasChain.append {x : BlockIndex} {j f e b : Nat} {l : List Nat} (h : x.HasChain j l) (hnodup : l.Nodup)
    (hhead : x.hashTable.getD j none = some f) (hlast : l.getLast? = some e) (he : e < x.nextBlock.length)
    (hf : f < x.lastBlock.length) (hfresh : x.nextBlock.getD b none = none) (hbe : e ≠ b) :
    { x with nextBlock := x.nextBlock.set e (some b), lastBlock := x.lastBlock.set f (some b) }.HasChain j (l ++ [b]) where
  linked := by
    refine h.linked.snoc b l _ ?_ hnodup (fun c _ hc => ?_) (fun c hc => ?_) ?_
    · rintro rfl
      cases hlast
    · exact getD_set_ne (fun hec => hc (by rw [hlast, hec])) _ _
    · obtain rfl : e = c := Option.some.inj (hlast.symm.trans hc)
      exact getD_set_self he _ _
    · rwa [getD_set_ne hbe]
  last g hg := by
    obtain rfl : f = g := Option.some.inj (hhead.symm.trans hg)
    rw [List.getLast?_concat]
    exact getD_set_self hf _ _

theorem BlockIndex.insert_first {cfg : Cfg} {dict : Bytes} {x : BlockIndex} {b : Nat}
    (h : x.hashTable.getD (bucketOf cfg dict x.tableSize b) none = none) :
    x.insert cfg dict b =
      { x with hashTable := x.hashTable.set (bucketOf cfg dict x.tableSize b) (some b), lastBlock := x.lastBlock.set b (some b) } := by
  unfold bucketOf at h
  simp only [BlockIndex.insert, h, bucketOf]

theorem BlockIndex.insert_append {cfg : Cfg} {dict : Bytes} {x : BlockIndex} {b f e : Nat}
    (h : x.hashTable.getD (bucketOf cfg dict x.tableSize b) none = some f) (hlast : x.lastBlock.getD f none = some e) :
    x.insert cfg dict b = { x with nextBlock := x.nextBlock.set e (some b), lastBlock := x.lastBlock.set f (some b) } := by
  unfold bucketOf at h
  simp only [BlockIndex.insert, h, hlast]

/-- R137: what holds of the index once the blocks below `k` of the `n` blocks are inserted into `size` buckets. -/
structure BlockIndex.Inserted (cfg : Cfg) (dict : Bytes) (n size k : Nat) (x : BlockIndex) : Prop where
  dictLen   : x.dictLen = dict.length
  numBlocks : x.numBlocks = n
  tableSize : x.tableSize = size
  hashTable : x.hashTable.length = size
  nextBlock : x.nextBlock.length = n
  lastBlock : x.lastBlock.length = n
  chains    : ∀ j, x.HasChain j (bucketBelow cfg dict size j k)
  links     : ∀ b b', x.nextBlock.getD b none = some b' → b < b' ∧ b' < k

theorem BlockIndex.Inserted.fresh {cfg : Cfg} {dict : Bytes} {n size k : Nat} {x : BlockIndex} (h : x.Inserted cfg dict n size k) :
    x.nextBlock.getD k none = none := by
  by_contra hne
  obtain ⟨b, hb⟩ := Option.ne_none_iff_exists'.mp hne
  obtain ⟨hlt, hgt⟩ := h.links k b hb
  omega

theorem BlockIndex.empty_inserted (cfg : Cfg) (dict : Bytes) (n size : Nat) :
    (BlockIndex.empty dict.length n size).Inserted cfg dict n size 0 := by
  have hnone (m i : Nat) : (List.replicate m (none : Option Nat)).getD i none = none := by
    rw [List.getD_eq_getElem?_getD, List.getElem?_replicate]
    split <;> rfl
  refine ⟨rfl, rfl, rfl, List.length_replicate, List.length_replicate, List.length_replicate, fun j => ⟨?_, fun f hf => ?_⟩,
    fun b b' hb => ?_⟩
  · simp only [BlockIndex.empty, hnone]
    trivial
  · cases (hnone _ _).symm.trans hf
  · cases (hnone _ _).symm.trans hb

/-- R137: with block `k` the chain of its bucket gets longer, and every other bucket keeps its chain. -/
theorem BlockIndex.hasChain_bucketBelow_succ {cfg : Cfg} {dict : Bytes} {size k : Nat} {y : BlockIndex}
    (hown : y.HasChain (bucketOf cfg dict size k) (bucketBelow cfg dict size (bucketOf cfg dict size k) k ++ [k]))
    (hother : ∀ j, bucketOf cfg dict size k ≠ j → y.HasChain j (bucketBelow cfg dict size j k)) (j : Nat) :
    y.HasChain j (bucketBelow cfg dict size j (k + 1)) := by
  rw [bucketBelow_succ]
  split
  · next hj => exact hj ▸ hown
  · next hj => exact hother j hj

/-- R137: the next block starts the chain of an empty bucket. -/
theorem BlockIndex.Inserted.insert_first {cfg : Cfg} {dict : Bytes} {n size k : Nat} {x : BlockIndex}
    (h : x.Inserted cfg dict n size k) (hsize : 0 < size) (hk : k < n)
    (hhead : x.hashTable.getD (bucketOf cfg dict size k) none = none) :
    (x.insert cfg dict k).Inserted cfg dict n size (k + 1) := by
  obtain rfl := h.tableSize
  have hempty := (h.chains (bucketOf cfg dict x.tableSize k)).linked.head?_eq
  rw [hhead, eq_comm, List.head?_eq_none_iff] at hempty
  rw [BlockIndex.insert_first hhead]
  refine ⟨h.dictLen, h.numBlocks, rfl, by simpa using h.hashTable, h.nextBlock, by simpa using h.lastBlock,
    BlockIndex.hasChain_bucketBelow_succ ?_ fun j hj => ?_, fun b b' hb => (h.links b b' hb).imp_right Nat.lt_succ_of_lt⟩
  · rw [hempty]
    refine .first ?_ (h.lastBlock ▸ hk) h.fresh
    rw [h.hashTable]
    exact Nat.mod_lt _ hsize
  · exact (h.chains j).congr (getD_set_ne hj _ _) fun b hb => ⟨rfl, getD_set_ne (mem_bucketBelow.mp hb).1.ne' _ _⟩

/-- R137: the next block is linked from the last block of a chain. -/
theorem BlockIndex.Inserted.insert_append {cfg : Cfg} {dict : Bytes} {n size k f : Nat} {x : BlockIndex}
    (h : x.Inserted cfg dict n size k) (hk : k < n) (hhead : x.hashTable.getD (bucketOf cfg dict size k) none = some f) :
    (x.insert cfg dict k).Inserted cfg dict n size (k + 1) := by
  obtain rfl := h.tableSize
  have hchain := h.chains (bucketOf cfg dict x.tableSize k)
  have hfmem := List.mem_of_mem_head? (hchain.linked.head?_eq.symm.trans hhead)
  obtain ⟨e, he⟩ := Option.isSome_iff_exists.mp (List.getLast?_isSome.mpr (List.ne_nil_of_mem hfmem))
  obtain ⟨hek, hebucket⟩ := mem_bucketBelow.mp (List.mem_of_getLast? he)
  obtain ⟨hfk, hfbucket⟩ := mem_bucketBelow.mp hfmem
  have hen : e < x.nextBlock.length := h.nextBlock ▸ hek.trans hk
  have hfn : f < x.lastBlock.length := h.lastBlock ▸ hfk.trans hk
  rw [BlockIndex.insert_append hhead ((hchain.last f hhead).trans he)]
  refine ⟨h.dictLen, h.numBlocks, rfl, h.hashTable, by simpa using h.nextBlock, by simpa using h.lastBlock,
    BlockIndex.hasChain_bucketBelow_succ ?_ fun j hj => ?_, fun b b' hb => ?_⟩
  · exact hchain.append (bucketBelow_nodup ..) hhead he hen hfn h.fresh hek.ne
  · have hne {c b : Nat} (hc : bucketOf cfg dict x.tableSize c = bucketOf cfg dict x.tableSize k)
        (hb : b ∈ bucketBelow cfg dict x.tableSize j k) : c ≠ b := by
      rintro rfl
      exact hj (hc.symm.trans (mem_bucketBelow.mp hb).2)
    exact (h.chains j).congr rfl fun b hb => ⟨getD_set_ne (hne hebucket hb) _ _, getD_set_ne (hne hfbucket hb) _ _⟩
  · by_cases heb : e = b
    · subst heb
      rw [getD_set_self hen] at hb
      obtain rfl := Option.some.inj hb
      exact ⟨hek, Nat.lt_succ_self _⟩
    · rw [getD_set_ne heb] at hb
      exact (h.links b b' hb).imp_right Nat.lt_succ_of_lt

theorem BlockIndex.Inserted.insert {cfg : Cfg} {dict : Bytes} {n size k : Nat} {x : BlockIndex} (h : x.Inserted cfg dict n size k)
    (hsize : 0 < size) (hk : k < n) : (x.insert cfg dict k).Inserted cfg dict n size (k + 1) := by
  cases hhead : x.hashTable.getD (bucketOf cfg dict size k) none with
  | none => exact h.insert_first hsize hk hhead
  | some f => exact h.insert_append hk hhead

/-- R137: the insertions in order, each after the blocks below it. -/
theorem BlockIndex.foldl_insert_inserted (cfg : Cfg) (dict : Bytes) {n size : Nat} (hsize : 0 < size) (k : Nat) (hk : k ≤ n) :
    ((List.range k).foldl (BlockIndex.insert cfg dict) (BlockIndex.empty dict.length n size)).Inserted cfg dict n size k := by
  induction k with
  | zero => exact BlockIndex.empty_inserted cfg dict n size
  | succ k ih =>
    rw [List.range_succ, List.foldl_append]
    exact (ih (by omega)).insert hsize hk

theorem bhBuild_inserted {cfg : Cfg} {dict : Bytes} {x : BlockIndex} (h : bhBuild cfg dict = some x) :
    ∃ size, x.Inserted cfg dict (dict.length / cfg.blockSize) size (dict.length / cfg.blockSize) := by
  unfold bhBuild at h
  split at h
  · cases h
  · next size hsize =>
    obtain ⟨k, -, rfl⟩ := Option.map_eq_some_iff.mp (tableSizeFor_eq .. ▸ hsize)
    obtain rfl := Option.some.inj h
    exact ⟨_, BlockIndex.foldl_insert_inserted cfg dict (Nat.two_pow_pos k) _ le_rfl⟩

/-- Settles O16: every insertion keeps `Inserted`, and a chain of `numBlocks` links at most ends within R287's bound. -/
theorem chainsListBlocks : Obligations.ChainsListBlocks := by
  intro cfg dict x hbuild
  obtain ⟨size, h⟩ := bhBuild_inserted hbuild
  refine ⟨h.dictLen, h.numBlocks, fun j _ => ⟨?_, ?_⟩, fun b b' hb => (h.links b b' hb).1⟩
  · rw [h.tableSize, h.numBlocks, ← bucketBelow_all]
    exact (h.chains j).linked.chain_eq _ _ _ (Nat.lt_succ_of_le (bucketBelow_length_le ..))
  · rw [h.tableSize, ← bucketBelow_all]
    exact (h.chains j).last

/-! ### Matches (R138 to R141, R143) -/

/-- R140, R143: the `n` bytes of the dictionary at `s` are those of the target at `t`. -/
def SameBytes (dict tgt : Bytes) (s t n : Nat) : Prop :=
  ∀ i, i < n → dict[s + i]? = tgt[t + i]?

theorem SameBytes.append {dict tgt : Bytes} {s t n k : Nat} (h : SameBytes dict tgt s t n)
    (h' : SameBytes dict tgt (s + n) (t + n) k) : SameBytes dict tgt s t (n + k) := by
  intro i hi
  by_cases hin : i < n
  · exact h i hin
  · obtain ⟨j, rfl⟩ := Nat.exists_eq_add_of_le (Nat.le_of_not_lt hin)
    simpa only [Nat.add_assoc] using h' j (by omega)

/-- R140: the byte `i` places before the position `p`, as the left extension reads it. -/
theorem getElem?_reverse_take {bs : Bytes} {p limit i : Nat} (hp : p ≤ bs.length) (hlimit : limit ≤ p) (hi : i < limit) :
    ((bs.take p).reverse.take limit)[i]? = bs[p - 1 - i]? := by
  have hlen : (bs.take p).length = p := List.length_take_of_le hp
  rw [List.getElem?_take_of_lt hi, List.getElem?_reverse (by omega), hlen, List.getElem?_take_of_lt (by omega)]

/-- R140: the loop over two runs of one length stops at their end or at the first pair of unequal bytes. -/
theorem commonLen_of_length {xs ys : Bytes} {limit : Nat} (hx : xs.length = limit) (hy : ys.length = limit) :
    ∃ n, commonLen xs ys = n ∧ n ≤ limit ∧ (∀ i, i < n → xs[i]? = ys[i]?) ∧ (n = limit ∨ n < limit ∧ xs[n]? ≠ ys[n]?) := by
  obtain ⟨hn, -, hsame, hend⟩ := commonLen_spec xs ys
  rw [hx, hy, or_self_left] at hend
  rw [hx] at hn
  exact ⟨_, rfl, hn, hsame, hend.elim .inl fun hne => (Nat.eq_or_lt_of_le hn).imp_right (⟨·, hne⟩)⟩

/-- R140: the left extension is a run of equal bytes that ends at its limit or before a mismatch. -/
theorem extendLeft_spec {dict tgt : Bytes} {spos tpos limit : Nat} (hs : spos ≤ dict.length) (ht : tpos ≤ tgt.length)
    (hls : limit ≤ spos) (hlt : limit ≤ tpos) :
    ∃ n, extendLeft dict tgt spos tpos limit = n ∧ n ≤ limit ∧ SameBytes dict tgt (spos - n) (tpos - n) n ∧
      (n = limit ∨ dict[spos - n - 1]? ≠ tgt[tpos - n - 1]?) := by
  obtain ⟨n, heq, hn, hsame, hend⟩ := commonLen_of_length (xs := (dict.take spos).reverse.take limit)
    (ys := (tgt.take tpos).reverse.take limit) (limit := limit) (by simp; omega) (by simp; omega)
  refine ⟨n, heq, hn, fun i hi => ?_, hend.imp_right ?_⟩
  · have h := hsame (n - 1 - i) (by omega)
    rw [getElem?_reverse_take hs hls (by omega), getElem?_reverse_take ht hlt (by omega)] at h
    rwa [show spos - n + i = spos - 1 - (n - 1 - i) by omega, show tpos - n + i = tpos - 1 - (n - 1 - i) by omega]
  · rintro ⟨hlimit, hne⟩
    rwa [getElem?_reverse_take hs hls hlimit, getElem?_reverse_take ht hlt hlimit, Nat.sub_right_comm,
      Nat.sub_right_comm tpos] at hne

/-- R140: the right extension is a run of equal bytes that ends at its limit or before a mismatch. -/
theorem extendRight_spec {dict tgt : Bytes} {spos tpos limit : Nat} (hs : spos + limit ≤ dict.length)
    (ht : tpos + limit ≤ tgt.length) :
    ∃ n, extendRight dict tgt spos tpos limit = n ∧ n ≤ limit ∧ SameBytes dict tgt spos tpos n ∧
      (n = limit ∨ dict[spos + n]? ≠ tgt[tpos + n]?) := by
  have hget {bs : Bytes} {p i : Nat} (hi : i < limit) : ((bs.drop p).take limit)[i]? = bs[p + i]? := by
    rw [List.getElem?_take_of_lt hi, List.getElem?_drop]
  obtain ⟨n, heq, hn, hsame, hend⟩ := commonLen_of_length (xs := (dict.drop spos).take limit)
    (ys := (tgt.drop tpos).take limit) (limit := limit) (by simp; omega) (by simp; omega)
  refine ⟨n, heq, hn, fun i hi => ?_, hend.imp_right ?_⟩
  · simpa only [hget (hi.trans_le hn)] using hsame i hi
  · rintro ⟨hlimit, hne⟩
    rwa [hget hlimit, hget hlimit] at hne

/-- R141: a match that `BH_FIND` returns is the extension of a verified block. -/
theorem bhFind_verified {cfg : Cfg} {x : BlockIndex} {dict tgt : Bytes} {h tpos tstart tend : Nat} {m : Match}
    (hm : bhFind cfg x dict tgt h tpos tstart tend = some m) :
    ∃ b, blockEq cfg.blockSize dict tgt b tpos = true ∧ m = extendMatch cfg.blockSize dict tgt b tpos tstart tend :=
  findLoop_verified _ _ _ _ (nextMatching_verified _ _) (by simp) hm

/-- Settles O17: the left run, the verified block and the right run follow each other without a gap, and each run ends for one of R140's reasons. -/
theorem foundMatchIsReal : Obligations.FoundMatchIsReal := by
  intro cfg x dict tgt h tpos tstart tend m hB hstart hend htgt hfind
  obtain ⟨b, hverified, rfl⟩ := bhFind_verified hfind
  obtain ⟨hblock, hdict⟩ := blockEq_spec hverified hB
  rw [Nat.succ_mul] at hdict
  obtain ⟨left, hleft, hleftLe, hleftSame, hleftEnd⟩ := extendLeft_spec (dict := dict) (tgt := tgt) (spos := b * cfg.blockSize)
    (tpos := tpos) (limit := min (b * cfg.blockSize) (tpos - tstart)) (by omega) (by omega) (by omega) (by omega)
  obtain ⟨right, hright, hrightLe, hrightSame, hrightEnd⟩ := extendRight_spec (dict := dict) (tgt := tgt)
    (spos := b * cfg.blockSize + cfg.blockSize) (tpos := tpos + cfg.blockSize)
    (limit := min (dict.length - (b * cfg.blockSize + cfg.blockSize)) (tend - (tpos + cfg.blockSize))) (by omega) (by omega)
  simp only [extendMatch, hleft, hright]
  have hsrc : b * cfg.blockSize - left + left = b * cfg.blockSize := by omega
  have htpos : tpos - left + left = tpos := by omega
  have hsrcEnd : b * cfg.blockSize - left + (cfg.blockSize + left + right) = b * cfg.blockSize + cfg.blockSize + right := by omega
  have htposEnd : tpos - left + (cfg.blockSize + left + right) = tpos + cfg.blockSize + right := by omega
  have hsame : SameBytes dict tgt (b * cfg.blockSize - left) (tpos - left) (left + cfg.blockSize + right) := by
    refine (hleftSame.append ?_).append ?_
    · rw [hsrc, htpos]
      exact hblock
    · rw [← Nat.add_assoc, hsrc, ← Nat.add_assoc, htpos]
      exact hrightSame
  rw [hsrcEnd, htposEnd]
  refine ⟨fun i hi => hsame i (by omega), by omega, by omega, by omega, by omega, by omega, by omega,
    ⟨b, by omega, by omega, by rw [Nat.succ_mul]; omega⟩, ?_, ?_⟩
  · rcases hleftEnd with hlimit | hne
    · omega
    · exact .inr (.inr hne)
  · rcases hrightEnd with hlimit | hne
    · omega
    · exact .inr (.inr hne)

end Sys2Proof.Machine
end

section
/-! PROOFS, family 44_chunk_parse.md. The parse of a chunk ends (spec/44_chunk_parse.md R151; spec/70_reset_and_hazards.md R287), and the instructions it emits produce as many bytes as the chunk has (R152). -/

namespace Sys2Proof.Machine

/-! ### Outcomes of an operation that ends -/

/-- The operation does not stop the model, and where it answers `Ok` the state has a property. -/
def Act.ends {σ α : Type} (x : Act σ α) (P : σ → Prop) : Prop :=
  match x with
  | .ok s _ => P s
  | .eod _ => True
  | .err _ _ => True
  | .bad _ => False

theorem Act.ends_iff {σ α : Type} {x : Act σ α} {P : σ → Prop} :
    x.ends P ↔ (∀ f, x ≠ .bad f) ∧ ∀ s a, x = .ok s a → P s := by
  cases x <;> simp [Act.ends]

theorem Act.ends_bind {σ α β : Type} {x : Act σ α} {f : σ → α → Act σ β} {P Q : σ → Prop} (hx : x.ends P)
    (hf : ∀ s a, P s → (f s a).ends Q) : (x.bind f).ends Q := by
  cases x with
  | ok s a => exact hf s a hx
  | eod s => trivial
  | err s c => trivial
  | bad f => exact hx.elim

theorem Act.ends_imp {σ α : Type} {x : Act σ α} {P Q : σ → Prop} (hx : x.ends P) (h : ∀ s, P s → Q s) : x.ends Q := by
  cases x with
  | ok s a => exact h s hx
  | eod s => trivial
  | err s c => trivial
  | bad f => exact hx

/-! ### What the serializer's operations count (R182, R184) -/

theorem imEncode_ends (map : InstrMap) (ws : Serializer) (t : Triple) : (imEncode map ws t).ends fun _ => True := by
  rcases imEncode_cases map ws t with ⟨_, _, _, _, _, _, _, _, h⟩ | ⟨_, _, _, _, h⟩ | ⟨_, _, _, _, h⟩ | ⟨_, h⟩ | ⟨_, _, _, h⟩ <;>
    rw [h] <;> trivial

theorem wsAdd_targetLen (cfg : Cfg) (map : InstrMap) (ws : Serializer) (bs : Bytes) :
    (wsAdd cfg map ws bs).ends fun ws1 => ws1.targetLen = ws.targetLen + bs.length := by
  unfold wsAdd
  split
  · trivial
  · exact Act.ends_bind (imEncode_ends _ _ _) fun _ _ _ => rfl

theorem wsCopy_targetLen (cfg : Cfg) (map : InstrMap) (ws : Serializer) (offset size : Nat) :
    (wsCopy cfg map ws offset size).ends fun ws1 => ws1.targetLen = ws.targetLen + size := by
  unfold wsCopy
  split
  · trivial
  split
  · trivial
  · refine Act.ends_bind (imEncode_ends _ _ _) fun _ _ _ => ?_
    split
    · trivial
    · rfl

/-! ### What the session emits (R151) -/

/-- The session has emitted instructions that produce `n` bytes: only its serializer moved. -/
def Encoder.Emitted (e : Encoder) (n : Nat) (e1 : Encoder) : Prop :=
  ∃ ws, e1 = { e with ws := ws } ∧ ws.targetLen = e.ws.targetLen + n

theorem Encoder.Emitted.trans {e e1 e2 : Encoder} {n k : Nat} (h : e.Emitted n e1) (h2 : e1.Emitted k e2) :
    e.Emitted (n + k) e2 := by
  obtain ⟨ws, rfl, hlen⟩ := h
  obtain ⟨ws2, rfl, hlen2⟩ := h2
  exact ⟨ws2, rfl, by rw [hlen2, hlen, Nat.add_assoc]⟩

theorem Encoder.liftWs_emitted {e : Encoder} {x : Act Serializer Unit} {n : Nat}
    (h : x.ends fun ws => ws.targetLen = e.ws.targetLen + n) : (e.liftWs x).ends (e.Emitted n) := by
  cases x with
  | ok ws a => exact ⟨ws, rfl, h⟩
  | eod ws => trivial
  | err ws c => trivial
  | bad f => exact h

theorem Encoder.copy_emitted (e : Encoder) (offset size : Nat) : (e.copy offset size).ends (e.Emitted size) :=
  Encoder.liftWs_emitted (wsCopy_targetLen _ _ _ _ _)

theorem Encoder.flushLiterals_emitted {e : Encoder} {upto : Nat} (h : upto ≤ e.tgtIn.len) :
    (e.flushLiterals upto).ends (e.Emitted (upto - e.parser.nextEncode)) := by
  unfold Encoder.flushLiterals
  split
  · have hlen : (e.tgtIn.slice e.parser.nextEncode (upto - e.parser.nextEncode)).length = upto - e.parser.nextEncode := by
      rw [Memory.slice_length]
      omega
    have hadd := wsAdd_targetLen e.cfg e.map e.ws (e.tgtIn.slice e.parser.nextEncode (upto - e.parser.nextEncode))
    rw [hlen] at hadd
    exact Encoder.liftWs_emitted hadd
  · exact ⟨e.ws, rfl, by omega⟩

/-! ### The scan (R151, R287) -/

/-- R140, R151: a match found at the scan position begins at or after the first byte not yet encoded and covers the block there, so it ends past that position. -/
theorem Encoder.usableMatch_range {e : Encoder} {m : Match} (hB : 1 ≤ e.cfg.blockSize)
    (hnext : e.parser.nextEncode ≤ e.parser.cand) (hcand : e.parser.cand + e.cfg.blockSize ≤ e.tgtIn.len)
    (h : e.usableMatch = some m) :
    e.parser.nextEncode ≤ m.tgtOff ∧ e.parser.cand < m.tgtOff + m.size ∧ m.tgtOff + m.size ≤ e.tgtIn.len := by
  unfold Encoder.usableMatch at h
  split at h
  · cases h
  · rename_i m' hfind
    split at h <;> cases h
    obtain ⟨-, -, -, hfrom, -, hblock, hend, -⟩ :=
      foundMatchIsReal _ _ _ _ _ _ _ _ _ hB hnext hcand (by simp) hfind
    exact ⟨hfrom, by omega, hend⟩

/-- R152: in the same chunk, the instructions emitted since `e` produce as many bytes as lie before `nextEncode`; none of them is in `DELTA_OUT` yet. -/
structure Encoder.Parsed (e e1 : Encoder) : Prop where
  cfg      : e1.cfg = e.cfg
  tgtIn    : e1.tgtIn = e.tgtIn
  deltaOut : e1.deltaOut = e.deltaOut
  counted  : e1.ws.targetLen = e.ws.targetLen + e1.parser.nextEncode
  inside   : e1.parser.nextEncode ≤ e1.tgtIn.len

theorem Encoder.Parsed.emitted {e e1 e2 : Encoder} {n : Nat} {p : Parser} (h : e.Parsed e1) (he : e1.Emitted n e2)
    (hp : p.nextEncode = e1.parser.nextEncode + n) (hin : p.nextEncode ≤ e1.tgtIn.len) :
    e.Parsed { e2 with parser := p } := by
  obtain ⟨ws, rfl, hlen⟩ := he
  exact ⟨h.cfg, h.tgtIn, h.deltaOut, by rw [hlen, h.counted, hp, Nat.add_assoc], hin⟩

/-- R287: every pass raises `cand`, by one or past the block a match covers, so fuel for the rest of the chunk is enough. -/
theorem Encoder.scan_parsed {e0 : Encoder} (hB : 1 ≤ e0.cfg.blockSize) (fuel : Nat) {e : Encoder} (h : e0.Parsed e)
    (hnext : e.parser.nextEncode ≤ e.parser.cand) (hcand : e.parser.cand + e.cfg.blockSize ≤ e.tgtIn.len)
    (hfuel : e.tgtIn.len < e.parser.cand + fuel) : (Encoder.scan fuel e).ends e0.Parsed := by
  induction fuel generalizing e with
  | zero => omega
  | succ fuel ih =>
    unfold Encoder.scan
    split
    · rename_i m hm
      obtain ⟨hfrom, hpast, hend⟩ := Encoder.usableMatch_range (h.cfg ▸ hB) hnext hcand hm
      refine Act.ends_bind (Encoder.flushLiterals_emitted (by omega)) fun e1 _ hadd => ?_
      refine Act.ends_bind (e1.copy_emitted _ _) fun e2 _ hcopy => ?_
      have hboth := hadd.trans hcopy
      have hparsed {p : Parser} (hp : p.nextEncode = m.tgtOff + m.size) : e0.Parsed { e2 with parser := p } :=
        h.emitted hboth (by omega) (by omega)
      obtain ⟨ws, rfl, -⟩ := hboth
      simp only
      split
      · exact hparsed rfl
      · rename_i hblock
        exact ih (hparsed rfl) (Nat.le_refl _) (Nat.not_lt.mp hblock) (by simp only; omega)
    · simp only
      split
      · exact h
      · rename_i hblock
        exact ih ⟨h.cfg, h.tgtIn, h.deltaOut, h.counted, h.inside⟩ (Nat.le_succ_of_le hnext) (Nat.not_lt.mp hblock)
          (by simp only; omega)

theorem Encoder.scanChunk_parsed {e : Encoder} (hB : 1 ≤ e.cfg.blockSize) : e.scanChunk.ends e.Parsed := by
  have hstart (p : Parser) (hp : p.nextEncode = 0) : e.Parsed { e with parser := p } :=
    ⟨rfl, rfl, rfl, by rw [hp]; rfl, by rw [hp]; exact Nat.zero_le _⟩
  unfold Encoder.scanChunk
  simp only
  split
  · exact hstart _ rfl
  · exact Encoder.scan_parsed hB _ (hstart _ rfl) (Nat.le_refl _) (by simp only; omega) (by simp only; omega)

/-- R151: the scan, then the literals after the last match. -/
theorem cpParse_ends {e : Encoder} (chunk : Bytes) (hB : 1 ≤ e.cfg.blockSize) :
    (cpParse e chunk).ends fun e1 => e1.ws.targetLen = e.ws.targetLen + chunk.length ∧ e1.tgtIn.bytes = chunk ∧
      e1.deltaOut = e.deltaOut ∧ e1.parser.nextEncode ≤ chunk.length := by
  refine Act.ends_bind (Encoder.scanChunk_parsed hB) fun e1 _ h => ?_
  obtain ⟨-, htgt, hout, hcounted, hinside⟩ := h
  refine Act.ends_imp (Encoder.flushLiterals_emitted (Nat.le_refl e1.tgtIn.len)) ?_
  rintro _ ⟨ws, rfl, hlen⟩
  have hchunk : e1.tgtIn.len = chunk.length := by rw [htgt, Memory.ofBytes_len]
  rw [hchunk] at hlen hinside
  exact ⟨by simp only at hcounted ⊢; omega, by rw [htgt, Memory.ofBytes_bytes], hout, hinside⟩

/-- Settles O27: the scan keeps `Parsed` and raises `cand` in every pass, and the last literals reach the chunk's end. -/
theorem parseCoversChunk : Obligations.ParseCoversChunk := by
  intro e chunk hB
  obtain ⟨hstop, hok⟩ := Act.ends_iff.mp (cpParse_ends chunk hB)
  exact ⟨hstop, fun e1 h => hok e1 () h⟩

end Sys2Proof.Machine
end

section
/-! PROOFS, family 45_code_table_and_instruction_map.md. The two maps of a code table (spec/45_code_table_and_instruction_map.md R163, R164), what `IM_ENCODE` changes (R166, R167), and the agreement of mapper and decoder (R169). -/

namespace Sys2Proof.Machine

/-! ### The maps of a code table (R163, R164) -/

theorem singleKey_eq_some_iff (t : CodeTable) (op : Nat) (k : Triple) :
    singleKey t op = some k ↔
      (t.entry (BitVec.ofNat 8 op)).firstTriple.inst ≠ .noop ∧ (t.entry (BitVec.ofNat 8 op)).secondTriple.inst = .noop ∧
        (t.entry (BitVec.ofNat 8 op)).firstTriple = k := by
  simp [singleKey, and_assoc]

/-- Settles O18: the fold of R163 keeps the first opcode registered under a triple. -/
theorem firstMapKeepsLowest : Obligations.FirstMapKeepsLowest := by
  intro t k
  simp only [mapLookup_imBuild_first, singleKey_eq_some_iff]

/-- The key under which an opcode is registered as a compound one (R164). -/
def compoundKey (t : CodeTable) (op : Nat) : Option (Byte × Triple) :=
  if (t.entry (BitVec.ofNat 8 op)).firstTriple.inst ≠ .noop ∧ (t.entry (BitVec.ofNat 8 op)).secondTriple.inst ≠ .noop then
    (mapLookup (t.entry (BitVec.ofNat 8 op)).firstTriple (imBuild t).first).map
      fun f => (f, (t.entry (BitVec.ofNat 8 op)).secondTriple)
  else none

theorem compoundKey_eq_some_iff (t : CodeTable) (op : Nat) (f : Byte) (u : Triple) :
    compoundKey t op = some (f, u) ↔
      (t.entry (BitVec.ofNat 8 op)).firstTriple.inst ≠ .noop ∧ (t.entry (BitVec.ofNat 8 op)).secondTriple.inst ≠ .noop ∧
        mapLookup (t.entry (BitVec.ofNat 8 op)).firstTriple (imBuild t).first = some f ∧
        (t.entry (BitVec.ofNat 8 op)).secondTriple = u := by
  simp [compoundKey, and_assoc]

/-- R164 for one opcode, over the finished first map. -/
theorem registerCompound_eq (t : CodeTable) (m : List ((Byte × Triple) × Byte)) (op : Nat) :
    registerCompound t (imBuild t).first m op =
      (compoundKey t op).elim m fun key => mapRegister m key (BitVec.ofNat 8 op) := by
  simp only [registerCompound, compoundKey]
  split_ifs
  · cases mapLookup (t.entry (BitVec.ofNat 8 op)).firstTriple (imBuild t).first <;> rfl
  · rfl

/-- R164: the finished second map holds a key under the lowest opcode that is registered with it. -/
theorem mapLookup_imBuild_second (t : CodeTable) (f : Byte) (u : Triple) :
    mapLookup (f, u) (imBuild t).second =
      ((List.range 256).find? fun op => decide (compoundKey t op = some (f, u))).map (BitVec.ofNat 8) := by
  have hfold : (imBuild t).second = (List.range 256).foldl (registerCompound t (imBuild t).first) [] := by
    simp only [imBuild]
  rw [hfold, mapLookup_fold (f, u) (registerCompound t (imBuild t).first) (compoundKey t)]
  · simp [mapLookup]
  · intro m op
    rw [registerCompound_eq]
    cases compoundKey t op <;> rfl

/-- Settles O19: the fold of R164 keeps the first opcode registered under a key. -/
theorem secondMapKeepsLowest : Obligations.SecondMapKeepsLowest := by
  intro t f u
  simp only [mapLookup_imBuild_second, compoundKey_eq_some_iff]

/-- R163: an opcode of the first map carries its triple and nothing else. -/
theorem entry_of_lookup_first {t : CodeTable} {k : Triple} {op : Byte} (h : mapLookup k (imBuild t).first = some op) :
    (t.entry op).firstTriple.inst ≠ .noop ∧ (t.entry op).secondTriple.inst = .noop ∧ (t.entry op).firstTriple = k := by
  rw [mapLookup_imBuild_first, Option.map_eq_some_iff] at h
  obtain ⟨n, hfind, rfl⟩ := h
  have hkey : singleKey t n = some k := by simpa using List.find?_some hfind
  exact (singleKey_eq_some_iff t n k).mp hkey

/-- R164: a compound opcode of the second map carries the first triple of the single opcode in its key, and the second triple of the key. -/
theorem entry_of_lookup_second {t : CodeTable} {f c : Byte} {u : Triple}
    (h : mapLookup (f, u) (imBuild t).second = some c) :
    (t.entry c).firstTriple.inst ≠ .noop ∧ (t.entry c).secondTriple.inst ≠ .noop ∧
      (t.entry c).firstTriple = (t.entry f).firstTriple ∧ (t.entry c).secondTriple = u := by
  rw [mapLookup_imBuild_second, Option.map_eq_some_iff] at h
  obtain ⟨n, hfind, rfl⟩ := h
  have hcompound : compoundKey t n = some (f, u) := by simpa using List.find?_some hfind
  obtain ⟨hfirst, hsecond, hsingle, hu⟩ := (compoundKey_eq_some_iff t n f u).mp hcompound
  obtain ⟨-, -, hkey⟩ := entry_of_lookup_first hsingle
  exact ⟨hfirst, hsecond, hkey.symm, hu⟩

/-! ### What `IM_ENCODE` changes (R166, R167) -/

/-- Settles O21: the three ways in which `IM_ENCODE` answers `Ok`; the fusion's write reaches only the byte at `lastOpIdx`. -/
theorem fusionLookahead : Obligations.FusionLookahead := by
  intro map ws ws1 t hok
  rcases imEncode_cases map ws t with ⟨i, prev, c, hlast, hread, hc, -, -, h⟩ | ⟨op, hop, -, -, h⟩ | ⟨op, hop, -, -, h⟩ |
    ⟨-, h⟩ | ⟨-, -, -, h⟩ <;> rw [h] at hok <;> cases hok
  · refine ⟨rfl, rfl, rfl, rfl, rfl, rfl, .inl ⟨i, prev, c, hlast, hread, hc, rfl, Memory.write_len .., ?_, fun j hj => ?_⟩⟩
    · simp [Memory.write_read, hread]
    · simp [Memory.write_read, hj]
  · exact ⟨rfl, rfl, rfl, rfl, rfl, rfl, .inr (.inl ⟨op, hop, rfl, rfl⟩)⟩
  · exact ⟨rfl, rfl, rfl, rfl, rfl, rfl, .inr (.inr ⟨op, hop, rfl, rfl⟩)⟩

/-! ### The instructions that a stream of opcodes and sizes stands for (R169) -/

/-- The size bytes after an opcode complete its table triple to an instruction (R74): none for an inline size, the varint for table size 0. -/
inductive SizeCompletes : Triple → Bytes → Triple → Prop
  | inline {u : Triple} (h : 1 ≤ u.size) : SizeCompletes u [] u
  | explicit {u : Triple} (h : u.size ≤ varintMax) : SizeCompletes ⟨u.inst, 0, u.mode⟩ (varintEncode u.size) u

/-- An opcode and its size bytes stand for one instruction, with no second triple (R166 steps (2) and (3)). -/
structure SingleCode (t : CodeTable) (op : Byte) (size : Bytes) (u : Triple) : Prop where
  active    : (t.entry op).firstTriple.inst ≠ .noop
  alone     : (t.entry op).secondTriple.inst = .noop
  completes : SizeCompletes (t.entry op).firstTriple size u

/-- An opcode and its size bytes stand for two instructions, the second of an inline size (R166 step (1)). -/
structure FusedCode (t : CodeTable) (op : Byte) (size : Bytes) (u v : Triple) : Prop where
  active    : (t.entry op).firstTriple.inst ≠ .noop
  paired    : (t.entry op).secondTriple.inst ≠ .noop
  completes : SizeCompletes (t.entry op).firstTriple size u
  second    : (t.entry op).secondTriple = v
  inline    : 1 ≤ v.size

/-- The bytes are opcodes with their sizes, one after the other, that stand for the instructions. -/
inductive Written (t : CodeTable) : Bytes → List Triple → Prop
  | nil : Written t [] []
  | single {op : Byte} {size bs : Bytes} {u : Triple} {us : List Triple} (h : SingleCode t op size u)
      (rest : Written t bs us) : Written t (op :: (size ++ bs)) (u :: us)
  | fused {op : Byte} {size bs : Bytes} {u v : Triple} {us : List Triple} (h : FusedCode t op size u v)
      (rest : Written t bs us) : Written t (op :: (size ++ bs)) (u :: v :: us)

theorem Written.append {t : CodeTable} {bs cs : Bytes} {us vs : List Triple} (h : Written t bs us) (h' : Written t cs vs) :
    Written t (bs ++ cs) (us ++ vs) := by
  induction h with
  | nil => exact h'
  | single hcode _ ih => simpa using Written.single hcode ih
  | fused hcode _ ih => simpa using Written.fused hcode ih

theorem Written.append_single {t : CodeTable} {bs size : Bytes} {us : List Triple} {op : Byte} {u : Triple}
    (h : Written t bs us) (hcode : SingleCode t op size u) : Written t (bs ++ op :: size) (us ++ [u]) := by
  simpa using h.append (.single hcode .nil)

theorem Written.append_fused {t : CodeTable} {bs size : Bytes} {us : List Triple} {op : Byte} {u v : Triple}
    (h : Written t bs us) (hcode : FusedCode t op size u v) : Written t (bs ++ op :: size) (us ++ [u, v]) := by
  simpa using h.append (.fused hcode .nil)

/-- R163: an opcode of the first map whose key the size bytes complete is a single one. -/
theorem singleCode_of_lookup {t : CodeTable} {k u : Triple} {op : Byte} {size : Bytes}
    (h : mapLookup k (imBuild t).first = some op) (hk : SizeCompletes k size u) : SingleCode t op size u := by
  obtain ⟨hactive, halone, rfl⟩ := entry_of_lookup_first h
  exact ⟨hactive, halone, hk⟩

/-- R164: the compound opcode that replaces a single one keeps its first instruction, and adds the one fused. -/
theorem SingleCode.fuse {t : CodeTable} {op c : Byte} {size : Bytes} {u v : Triple} (h : SingleCode t op size u)
    (hc : mapLookup (op, v) (imBuild t).second = some c) (hv : 1 ≤ v.size) : FusedCode t c size u v := by
  obtain ⟨hactive, hpaired, hfirst, hsecond⟩ := entry_of_lookup_second hc
  exact ⟨hactive, hpaired, hfirst ▸ h.completes, hsecond, hv⟩

/-! ### What the mapper writes (R166, R167, R169) -/

/-- `instBuf` stands for the instructions `done`; the lookahead, where there is one, is its last opcode, a single one (R167). -/
structure Serializer.Carries (t : CodeTable) (ws : Serializer) (done : List Triple) : Prop where
  memory    : ws.instBuf.wf = true
  written   : Written t ws.instBuf.bytes done
  lookahead : ∀ i, ws.lastOpIdx = some i → ∃ before op size earlier u,
    ws.instBuf.bytes = before ++ op :: size ∧ i = before.length ∧ Written t before earlier ∧ SingleCode t op size u ∧
      done = earlier ++ [u]

theorem Serializer.carries_nil {t : CodeTable} {ws : Serializer} (hbuf : ws.instBuf = []) (hlast : ws.lastOpIdx = none) :
    ws.Carries t [] :=
  ⟨by rw [hbuf]; rfl, by rw [hbuf]; exact .nil, by simp [hlast]⟩

theorem Serializer.Carries.emit {t : CodeTable} {ws : Serializer} {done : List Triple} {op : Byte} {size : Bytes}
    {u : Triple} (h : ws.Carries t done) (hcode : SingleCode t op size u) : (ws.emit op size).Carries t (done ++ [u]) := by
  have hbytes : (ws.emit op size).instBuf.bytes = ws.instBuf.bytes ++ op :: size := Memory.append_bytes _ _
  refine ⟨Memory.wf_append h.memory _, hbytes ▸ h.written.append_single hcode, fun i hi => ?_⟩
  cases hi
  exact ⟨_, op, size, done, u, hbytes, (Memory.bytes_length _).symm, h.written, hcode, rfl⟩

theorem Serializer.Carries.fuse {t : CodeTable} {ws : Serializer} {done : List Triple} {i : Nat} {prev c : Byte}
    {v : Triple} (h : ws.Carries t done) (hlast : ws.lastOpIdx = some i) (hread : ws.instBuf.read i = some prev)
    (hc : mapLookup (prev, v) (imBuild t).second = some c) (hv : 1 ≤ v.size) :
    Serializer.Carries t { ws with instBuf := ws.instBuf.write i c, lastOpIdx := none } (done ++ [v]) := by
  obtain ⟨before, op, size, earlier, u, hbytes, rfl, hbefore, hcode, rfl⟩ := h.lookahead i hlast
  obtain rfl : op = prev := by simpa [Memory.read_of_wf h.memory, hbytes] using hread
  refine ⟨Memory.wf_write h.memory _ _, ?_, nofun⟩
  rw [Memory.write_bytes h.memory hbytes, List.append_assoc]
  exact hbefore.append_fused (hcode.fuse hc hv)

theorem Serializer.Carries.of_imEncode {t : CodeTable} {ws ws1 : Serializer} {done : List Triple} {u : Triple}
    (h : ws.Carries t done) (hok : imEncode (imBuild t) ws u = .ok ws1 ()) : ws1.Carries t (done ++ [u]) := by
  rcases imEncode_cases (imBuild t) ws u with ⟨i, prev, c, hlast, hread, hc, hpos, -, h'⟩ | ⟨op, hop, hpos, -, h'⟩ |
    ⟨op, hop, -, hmax, h'⟩ | ⟨-, h'⟩ | ⟨-, -, -, h'⟩ <;> rw [h'] at hok <;> cases hok
  · exact h.fuse hlast hread hc hpos
  · exact h.emit (singleCode_of_lookup hop (.inline hpos))
  · exact h.emit (singleCode_of_lookup hop (.explicit hmax))

theorem Serializer.Carries.of_encodeAll {t : CodeTable} {ws ws1 : Serializer} {done us : List Triple}
    (h : ws.Carries t done) (hok : encodeAll (imBuild t) ws us = .ok ws1 ()) : ws1.Carries t (done ++ us) := by
  induction us generalizing ws done with
  | nil => cases hok; simpa using h
  | cons u us ih =>
    obtain ⟨ws2, _, hu, hus⟩ := Act.bind_eq_ok.mp hok
    simpa using ih (h.of_imEncode hu) hus

/-! ### What the decoder delivers (R202, R169) -/

/-- With the cursor past a beginning of the available bytes, the others are available. -/
theorem Source.bytes_posAfter {x : Source} {used rest : Bytes} (h : x.bytes = used ++ rest) :
    Source.bytes { x with pos := x.posAfter rest } = rest := by
  have hpos : x.posAfter rest = x.pos + used.length := by simp [Source.posAfter, h]
  have hdrop : Source.bytes { x with pos := x.pos + used.length } = x.bytes.drop used.length := by
    simp [Source.bytes, Memory.slice, List.drop_take, Nat.sub_sub]
  rw [hpos, hdrop, h, List.drop_left]

theorem Decoder.instructions_at (d : Decoder) (p : Nat) (pending : Option Byte) :
    Decoder.instructions { d with ipos := p, pendingSecond := pending } = { d.instructions with pos := p } := by
  unfold Decoder.instructions
  cases d.ibuf <;> rfl

/-- The session fetches under the table, with this pending opcode and these bytes ahead. -/
structure Decoder.Ahead (d : Decoder) (t : CodeTable) (pending : Option Byte) (bs : Bytes) : Prop where
  table   : d.cfg.codeTable = t
  pending : d.pendingSecond = pending
  bytes   : d.instructions.bytes = bs

/-- R202: `ID_NEXT` delivers the instruction to which the next bytes complete the next table triple. -/
theorem Decoder.Ahead.idNext {d : Decoder} {t : CodeTable} {p pending : Option Byte} {bs size rest : Bytes} {k u : Triple}
    (h : d.Ahead t p bs) (hnext : nextTriple t p bs = some (k, pending, size ++ rest)) (hcut : size ++ rest <:+ bs)
    (hk : SizeCompletes k size u) : ∃ d1, d.idNext = .ok d1 u ∧ d1.Ahead t pending rest := by
  obtain ⟨rfl, rfl, rfl⟩ := h
  obtain ⟨used, hused⟩ := hcut
  rw [← List.append_assoc] at hused
  refine ⟨{ d with ipos := d.instructions.posAfter rest, pendingSecond := pending }, ?_, rfl, rfl,
    by rw [Decoder.instructions_at, Source.bytes_posAfter hused.symm]⟩
  cases hk with
  | inline hpos => simp [Decoder.idNext, hnext, Nat.ne_of_gt hpos]
  | explicit hmax => simp [Decoder.idNext, hnext, varintDecode_encode hmax]

theorem fetchAll_cons {n : Nat} {d d1 d2 : Decoder} {u : Triple} {us : List Triple} (hu : d.idNext = .ok d1 u)
    (hus : fetchAll n d1 = some (us, d2)) : fetchAll (n + 1) d = some (u :: us, d2) := by
  simp [fetchAll, hu, hus]

theorem Decoder.Ahead.single {d : Decoder} {t : CodeTable} {op : Byte} {size bs : Bytes} {u : Triple}
    (h : d.Ahead t none (op :: (size ++ bs))) (hcode : SingleCode t op size u) :
    ∃ d1, d.idNext = .ok d1 u ∧ d1.Ahead t none bs :=
  h.idNext (by simp [nextTriple, hcode.active, hcode.alone]) (List.suffix_cons _ _) hcode.completes

theorem Decoder.Ahead.fused {d : Decoder} {t : CodeTable} {op : Byte} {size bs : Bytes} {u v : Triple}
    (h : d.Ahead t none (op :: (size ++ bs))) (hcode : FusedCode t op size u v) :
    ∃ d1 d2, d.idNext = .ok d1 u ∧ d1.idNext = .ok d2 v ∧ d2.Ahead t none bs := by
  obtain ⟨d1, hu, h1⟩ := h.idNext (pending := some op) (by simp [nextTriple, hcode.active, hcode.paired])
    (List.suffix_cons _ _) hcode.completes
  obtain ⟨-, -, -, rfl, hv⟩ := hcode
  obtain ⟨d2, hv, h2⟩ := h1.idNext (size := []) (pending := none) (by simp [nextTriple]) (List.suffix_refl bs) (.inline hv)
  exact ⟨d1, d2, hu, hv, h2⟩

/-- R202: a session delivers, one by one, the instructions its bytes stand for. -/
theorem Written.delivered {t : CodeTable} {bs : Bytes} {us : List Triple} (hbs : Written t bs us) {d : Decoder}
    (h : d.Ahead t none bs) : ∃ d1, fetchAll us.length d = some (us, d1) ∧ d1.Ahead t none [] := by
  induction hbs generalizing d with
  | nil => exact ⟨d, rfl, h⟩
  | single hcode _ ih =>
    obtain ⟨d1, hu, h1⟩ := h.single hcode
    obtain ⟨d2, hus, h2⟩ := ih h1
    exact ⟨d2, fetchAll_cons hu hus, h2⟩
  | fused hcode _ ih =>
    obtain ⟨d1, d2, hu, hv, h2⟩ := h.fused hcode
    obtain ⟨d3, hus, h3⟩ := ih h2
    exact ⟨d3, fetchAll_cons hu (fetchAll_cons hv hus), h3⟩

/-- Settles O22: what the mapper has written stands, after every instruction, for the instructions so far, and the decoder delivers what the bytes stand for. -/
theorem mapperAndDecoderAgree : Obligations.MapperAndDecoderAgree := by
  intro t ws ws1 ts d hbuf hlast hok htable hpending hbytes
  have hcarries := (Serializer.carries_nil hbuf hlast).of_encodeAll hok
  obtain ⟨d1, hfetch, hend⟩ := hcarries.written.delivered ⟨htable, hpending, hbytes⟩
  exact ⟨d1, hfetch, hend.bytes, hend.pending⟩

end Sys2Proof.Machine
end

section
/-! PROOFS, family 46_window_serializer.md. What an accepted serializer operation adds to the window, and what a refused one leaves unchanged (spec/46_window_serializer.md R180 to R184, R187; spec/60_exceptions.md R258). -/

namespace Sys2Proof.Machine

/-! ### `IM_ENCODE` refused (R166) -/

theorem imEncode_err {map : InstrMap} {ws ws1 : Serializer} {t : Triple} {c : Cause} (h : imEncode map ws t = .err ws1 c) :
    ws1 = ws ∧ (c = .encRange ∧ (t.size = 0 ∨ varintMax < t.size) ∨ c = .encNoOpcode) := by
  rcases imEncode_cases map ws t with ⟨_, _, _, -, -, -, -, -, h'⟩ | ⟨_, -, -, -, h'⟩ | ⟨_, -, -, -, h'⟩ | ⟨hsize, h'⟩ |
    ⟨-, -, -, h'⟩ <;> rw [h'] at h <;> cases h
  · exact ⟨rfl, .inl ⟨rfl, hsize⟩⟩
  · exact ⟨rfl, .inr rfl⟩

/-! ### `WS_ADD` and `WS_RUN` (R182, R183) -/

/-- R182 and R183 in one: an instruction of `size` bytes, with its literal bytes. -/
def wsLiteral (cfg : Cfg) (map : InstrMap) (ws : Serializer) (inst : InstType) (size : Nat) (bs : Bytes) : Act Serializer Unit :=
  if size = 0 ∨ varintMax < ws.targetLen + size then .err ws .encRange
  else
    (imEncode map ws ⟨inst, size, 0⟩).bind fun ws1 _ =>
      .ok { ws1.appendLiteral cfg.interleaved bs with targetLen := ws.targetLen + size } ()

theorem wsAdd_eq_wsLiteral (cfg : Cfg) (map : InstrMap) (ws : Serializer) (bs : Bytes) :
    wsAdd cfg map ws bs = wsLiteral cfg map ws .add bs.length bs := rfl

theorem wsRun_eq_wsLiteral (cfg : Cfg) (map : InstrMap) (ws : Serializer) (size : Nat) (byte : Byte) :
    wsRun cfg map ws size byte = wsLiteral cfg map ws .run size [byte] := rfl

section Literal

variable {cfg : Cfg} {map : InstrMap} {ws ws1 : Serializer} {inst : InstType} {size : Nat} {bs : Bytes}

theorem wsLiteral_err {c : Cause} (h : wsLiteral cfg map ws inst size bs = .err ws1 c) : ws1 = ws := by
  unfold wsLiteral at h
  split at h
  · cases h
    rfl
  · rcases Act.bind_eq_err.mp h with henc | ⟨_, _, -, hok⟩
    · exact (imEncode_err henc).1
    · cases hok

theorem wsLiteral_ok (h : wsLiteral cfg map ws inst size bs = .ok ws1 ()) :
    ws1.targetLen = ws.targetLen + size ∧ ws1.cache = ws.cache ∧ 1 ≤ size ∧
      (cfg.interleaved = false → ws1.dataBuf.bytes = ws.dataBuf.bytes ++ bs ∧ ws1.addrBuf = ws.addrBuf) := by
  unfold wsLiteral at h
  split at h
  · cases h
  · next hsize =>
    obtain ⟨ws2, _, henc, hok⟩ := Act.bind_eq_ok.mp h
    cases hok
    obtain ⟨hdata, haddr, -, -, hcache, -⟩ := fusionLookahead map ws ws2 _ henc
    exact ⟨rfl, by simp [hcache], by omega, fun hmode => by simp [hmode, hdata, haddr]⟩

end Literal

/-! ### The value of an address field (R113) -/

/-- The smaller of `SELF` and `HERE` is at most half of `here`, and the chosen value is no larger. -/
theorem AddrCache.bestMode_value_le (c : AddrCache) (a here : Nat) : 2 * (c.bestMode a here).2 ≤ here := by
  have hself := AddrCache.bestMode_least (c := c) (a := a) (here := here) (.inl ⟨rfl, rfl⟩)
  have hhere := AddrCache.bestMode_least (c := c) (a := a) (here := here) (.inr (.inl ⟨rfl, rfl⟩))
  omega

/-- Where `here` is at most twice `VARINT_MAX`, a field written as a varint can be written. -/
theorem AddrCache.field_value_le {cfg : Cfg} {c : AddrCache} {a here : Nat} (hhere : here ≤ 2 * varintMax)
    (hbyte : (c.field cfg a here).isByte = false) : (c.field cfg a here).value ≤ varintMax := by
  have hmiss : c.same.getD (a % (cfg.sameSize * 256)) 0 ≠ a := fun hhit => by
    simp [(c.field_isByte_iff cfg a here).mpr hhit] at hbyte
  have hvalue := c.bestMode_value_le a here
  rw [AddrCache.field_of_miss hmiss]
  dsimp only
  omega

/-! ### `WS_COPY` (R184) -/

/-- R184 after the opcode: the address field and the new target length. -/
def Serializer.finishCopy (cfg : Cfg) (ws : Serializer) (f : AddrField) (targetLen : Nat) : Act Serializer Unit :=
  if f.isByte = false ∧ varintMax < f.value then .err ws .encRange
  else .ok { ws.appendAddress cfg.interleaved f.bytes with targetLen := targetLen } ()

/-- `WS_COPY` refuses its operands with nothing changed, or updates the cache, encodes the instruction and writes the field. -/
theorem wsCopy_cases (cfg : Cfg) (map : InstrMap) (ws : Serializer) (offset size : Nat) :
    wsCopy cfg map ws offset size = .err ws .encRange ∨
    (1 ≤ size ∧ ws.targetLen + size ≤ varintMax ∧ offset < ws.dictLen + ws.targetLen ∧
      wsCopy cfg map ws offset size =
        (imEncode map { ws with cache := ws.cache.update cfg offset }
          ⟨.copy, size, (ws.cache.field cfg offset (ws.dictLen + ws.targetLen)).mode⟩).bind fun ws1 _ =>
            ws1.finishCopy cfg (ws.cache.field cfg offset (ws.dictLen + ws.targetLen)) (ws.targetLen + size)) := by
  by_cases hsize : size = 0 ∨ varintMax < ws.targetLen + size
  · exact .inl (by simp only [wsCopy, if_pos hsize])
  by_cases hoffset : offset < ws.dictLen + ws.targetLen
  · exact .inr ⟨by omega, by omega, hoffset, by
      simp only [wsCopy, if_neg hsize, AddrCache.encode_of_lt hoffset, Serializer.finishCopy]⟩
  · exact .inl (by simp only [wsCopy, if_neg hsize, AddrCache.encode_of_ge (Nat.not_lt.mp hoffset)])

section Copy

variable {cfg : Cfg} {map : InstrMap} {ws ws1 : Serializer} {offset size : Nat}

/-- Past the operand checks the size and the field's value are in range, so only a missing opcode is left. -/
theorem wsCopy_err {c : Cause} (hdict : ws.dictLen ≤ varintMax) (htarget : ws.targetLen ≤ varintMax)
    (h : wsCopy cfg map ws offset size = .err ws1 c) :
    (c = .encRange ∧ ws1 = ws) ∨ (c = .encNoOpcode ∧ ws1 = { ws with cache := ws.cache.update cfg offset }) := by
  rcases wsCopy_cases cfg map ws offset size with h' | ⟨hpos, hmax, -, h'⟩ <;> rw [h'] at h
  · cases h
    exact .inl ⟨rfl, rfl⟩
  · rcases Act.bind_eq_err.mp h with henc | ⟨ws2, _, -, hfinish⟩
    · obtain ⟨rfl, ⟨-, hsize⟩ | rfl⟩ := imEncode_err henc
      · dsimp only at hsize
        omega
      · exact .inr ⟨rfl, rfl⟩
    · have hvalue := AddrCache.field_value_le (cfg := cfg) (c := ws.cache) (a := offset)
        (here := ws.dictLen + ws.targetLen) (by omega)
      unfold Serializer.finishCopy at hfinish
      split at hfinish
      · next hbig => exact absurd (hvalue hbig.1) (Nat.not_le.mpr hbig.2)
      · cases hfinish

theorem wsCopy_ok (h : wsCopy cfg map ws offset size = .ok ws1 ()) :
    ws1.targetLen = ws.targetLen + size ∧ offset < ws.dictLen + ws.targetLen ∧
      ws1.cache = ws.cache.update cfg offset ∧ 1 ≤ size ∧
      (cfg.interleaved = false → ws1.dataBuf = ws.dataBuf ∧
        ws1.addrBuf.bytes = ws.addrBuf.bytes ++ (ws.cache.field cfg offset (ws.dictLen + ws.targetLen)).bytes) := by
  rcases wsCopy_cases cfg map ws offset size with h' | ⟨hpos, -, hoffset, h'⟩ <;> rw [h'] at h
  · cases h
  · obtain ⟨ws2, _, henc, hfinish⟩ := Act.bind_eq_ok.mp h
    obtain ⟨hdata, haddr, -, -, hcache, -⟩ := fusionLookahead map _ ws2 _ henc
    unfold Serializer.finishCopy at hfinish
    split at hfinish <;> cases hfinish
    exact ⟨rfl, hoffset, by simp [hcache], hpos, fun hmode => by simp [hmode, hdata, haddr]⟩

end Copy

/-- Settles O24: only `WS_COPY` changes anything before its opcode is found, and that is the address cache. -/
theorem serializerErrorsPrecise : Obligations.SerializerErrorsPrecise := by
  intro cfg map ws ws1 bs byte offset size c hdict htarget
  rw [wsAdd_eq_wsLiteral, wsRun_eq_wsLiteral]
  exact ⟨wsLiteral_err, wsLiteral_err, wsCopy_err hdict htarget⟩

/-- Settles O25: `IM_ENCODE` changes neither the literals nor the addresses nor the cache, so they are what the operation itself adds. -/
theorem serializerCounts : Obligations.SerializerCounts := by
  intro cfg map ws ws1 bs byte offset size
  rw [wsAdd_eq_wsLiteral, wsRun_eq_wsLiteral]
  exact ⟨wsLiteral_ok, wsLiteral_ok, wsCopy_ok⟩

end Sys2Proof.Machine
end

section
/-! PROOFS, family 60_exceptions.md. The failure latch: what sets it, what keeps it, and what a failed session answers (spec/60_exceptions.md R250, R257, R259). -/

namespace Sys2Proof.Machine

/-! ### The latch under the effects of a step (R257) -/

/-- An update of the latch that leaves it or raises an error keeps the cause it holds (R257: the first cause). -/
theorem latch_kept {latch latch1 : Option Cause} {c : Cause} (h : latch1 = latch ∨ ∃ c1, latch1 = some (latch.getD c1))
    (hc : latch = some c) : latch1 = some c := by
  subst hc
  rcases h with rfl | ⟨c1, rfl⟩ <;> rfl

theorem State.EncodeMoved.failedOf {s t : State} (hm : s.EncodeMoved t) {side : Side} {c : Cause}
    (hc : s.failedOf side = some c) : t.failedOf side = some c := by
  obtain ⟨e, failed, -, henc, hfailed⟩ := hm.enc
  cases side with
  | encode =>
    have hlatch : t.enc.failed = failed := by rw [henc]
    exact hlatch.trans (latch_kept hfailed hc)
  | decode => exact (congrArg Decoder.failed hm.dec).trans hc

theorem State.DecodeMoved.failedOf {s t : State} (hm : s.DecodeMoved t) {side : Side} {c : Cause}
    (hc : s.failedOf side = some c) : t.failedOf side = some c := by
  obtain ⟨d, failed, call, -, hdec, hfailed⟩ := hm.dec
  cases side with
  | encode => exact (congrArg Encoder.failed hm.enc).trans hc
  | decode =>
    have hlatch : t.dec.failed = failed := by rw [hdec]
    exact hlatch.trans (latch_kept hfailed hc)

theorem State.Committed.failedOf {s t : State} (hm : s.Committed t) (side : Side) : t.failedOf side = s.failedOf side := by
  obtain ⟨call, phase, hdec⟩ := hm.dec
  cases side with
  | encode => exact congrArg Encoder.failed hm.enc
  | decode => simp only [State.failedOf, hdec]

/-- Settles O50, by the effects a step can have: only a creation writes the latch otherwise than by raising an error, and it is one of that side. -/
theorem latchIsSticky : Obligations.LatchIsSticky := by
  intro s t side c h hc hn
  rcases step_effects h with rfl | ⟨-, o, rest, -, -, ⟨-, hm⟩ | ⟨-, hm⟩⟩ | ⟨hcall, rest, cfg, dict, hops, rfl⟩ |
    ⟨hcall, rest, cfg, dict, hops, rfl⟩ | ⟨-, hm | hm⟩
  · exact hc
  · exact hm.failedOf hc
  · exact hm.failedOf hc
  · cases side with
    | encode => exact absurd ⟨hcall, _, rest, hops, rfl, rfl⟩ hn
    | decode => exact hc
  · cases side with
    | encode => exact hc
    | decode => exact absurd ⟨hcall, _, rest, hops, rfl, rfl⟩ hn
  · exact hm.failedOf hc
  · exact (hm.failedOf side).trans hc

/-! ### The outcome of an error (R250, R257) -/

/-- A session has failed. -/
def State.latched (s : State) : Prop :=
  ∃ side c, s.failedOf side = some c

theorem State.latched_of_kept {s t : State} (h : s.latched)
    (hkept : ∀ {side c}, s.failedOf side = some c → t.failedOf side = some c) : t.latched := by
  obtain ⟨side, c, hc⟩ := h
  exact ⟨side, c, hkept hc⟩

/-- The creation of a session reports an error only with the cause it latches (R252, R257). -/
theorem creationReply_isError {latch : Option Cause} (h : (creationReply latch).isError = true) : ∃ c, latch = some c := by
  cases latch with
  | none => cases h
  | some c => exact ⟨c, rfl⟩

theorem State.EncodeMoved.latched {s t : State} {r : Reply} (hm : s.EncodeMoved t)
    (hs : s.last = some r → s.latched) (ht : t.last = some r) (hr : r.isError = true) : t.latched := by
  rcases hm.last r ht hr with hl | ⟨c, hc⟩
  · exact State.latched_of_kept (hs hl) hm.failedOf
  · exact ⟨.encode, c, hc⟩

theorem State.DecodeMoved.latched {s t : State} {r : Reply} (hm : s.DecodeMoved t)
    (hs : s.last = some r → s.latched) (ht : t.last = some r) (hr : r.isError = true) : t.latched := by
  rcases hm.last r ht hr with hl | ⟨c, hc⟩
  · exact State.latched_of_kept (hs hl) hm.failedOf
  · exact ⟨.decode, c, hc⟩

theorem State.Committed.latched {s t : State} {r : Reply} (hm : s.Committed t)
    (hs : s.last = some r → s.latched) (ht : t.last = some r) (hr : r.isError = true) : t.latched := by
  rcases hm.last with hl | hl <;> rw [hl] at ht
  · exact State.latched_of_kept (hs ht) fun hc => (hm.failedOf _).trans hc
  · cases ht
    cases hr

/-- Settles O51, by the effects a step can have: an error outcome is an old one, whose latch is kept, or comes with a cause. -/
theorem errorSetsLatch : Obligations.ErrorSetsLatch := by
  intro s t h hinv r ht hr
  have hs : s.last = some r → s.latched := fun hl => hinv r hl hr
  rcases step_effects h with rfl | ⟨-, o, rest, -, -, ⟨-, hm⟩ | ⟨-, hm⟩⟩ | ⟨-, rest, cfg, dict, -, rfl⟩ |
    ⟨-, rest, cfg, dict, -, rfl⟩ | ⟨-, hm | hm⟩
  · exact hs ht
  · exact hm.latched hs ht hr
  · exact hm.latched hs ht hr
  · cases ht
    obtain ⟨c, hc⟩ := creationReply_isError hr
    exact ⟨.encode, c, hc⟩
  · cases ht
    obtain ⟨c, hc⟩ := creationReply_isError hr
    exact ⟨.decode, c, hc⟩
  · exact hm.latched hs ht hr
  · exact hm.latched hs ht hr

/-! ### A failed session (R257) -/

/-- Only `DECODE_CALL` reports a failed session by its own results (R237). -/
theorem HostOp.failedReply_of_ne_decodeCall {o : HostOp} (h : ∀ bytes, o ≠ .decodeCall bytes) (c : Cause) :
    o.failedReply c = .error c := by
  unfold HostOp.failedReply
  split
  · exact absurd rfl (h _)
  · rfl

/-- Settles O49: the operation is taken from the queue and answered with the cause held. -/
theorem failedSessionAnswers : Obligations.FailedSessionAnswers := by
  intro s o rest c hcall hops hfailed hcreates
  have hstep : step s = .next { s with ops := rest, last := some (o.failedReply c) } := by
    rw [step_op hcall hops]
    exact State.perform_failed hfailed hcreates
  refine ⟨fun hne => ?_, fun bytes ho => ?_⟩
  · rw [hstep, HostOp.failedReply_of_ne_decodeCall hne]
  · rw [hstep, ho]
    rfl

end Sys2Proof.Machine
end

section
/-! PROOFS, family 48_window_decoder.md. `WD_PARSE` on growing input: what is decided stays decided (spec/48_window_decoder.md R213), and the limit on the target length (R215). -/

namespace Sys2Proof.Machine

/-! ### Scanners that measure what they read (R212, R213) -/

/-- A scanner that knows the length of the bytes some earlier field began at: its answer `Ok` or `ERROR` does not change when more bytes arrive, counted in that length too. -/
def Scan.SettledFrom {α : Type} (f : Nat → Bytes → Scan α) : Prop :=
  ∀ n bs more, bs.length ≤ n →
    (∀ c, f n bs = .err c → f (n + more.length) (bs ++ more) = .err c) ∧
    ∀ a r, f n bs = .ok a r → f (n + more.length) (bs ++ more) = .ok a (r ++ more)

theorem Scan.Settled.from {α : Type} {f : Bytes → Scan α} (hf : Scan.Settled f) : Scan.SettledFrom fun _ => f :=
  fun _ bs more _ => hf bs more

/-- A scanner may be followed by one that measures, since it leaves no more bytes than it was given. -/
theorem Scan.SettledFrom.bind {α β : Type} {f : Nat → Bytes → Scan α} {g : Nat → α → Bytes → Scan β}
    (hf : Scan.SettledFrom f) (hs : ∀ n, Scan.Shorter (f n)) (hg : ∀ a, Scan.SettledFrom fun n => g n a) :
    Scan.SettledFrom fun n bs => (f n bs).bind (g n) := by
  intro n bs more hn
  obtain ⟨herr, hok⟩ := hf n bs more hn
  have next : ∀ a r, f n bs = .ok a r → r.length ≤ n := fun a r h => (hs n bs a r h).trans hn
  refine ⟨fun c h => ?_, fun b r h => ?_⟩
  · rcases Scan.bind_eq_err.mp h with h | ⟨a, r, h1, h2⟩
    · simp [herr c h]
    · simp [hok a r h1, (hg a n r more (next a r h1)).1 c h2]
  · obtain ⟨a, r1, h1, h2⟩ := Scan.bind_eq_ok.mp h
    simp [hok a r1 h1, (hg a n r1 more (next a r1 h1)).2 b r h2]

theorem Scan.SettledFrom.settled {α : Type} {f : Nat → Bytes → Scan α} (hf : Scan.SettledFrom f) :
    Scan.Settled fun bs => f bs.length bs := by
  intro bs more
  simpa using hf bs.length bs more le_rfl

/-- R212's test of `deltaLen` counts the bytes read since field 5, which no later byte changes. -/
theorem scanCheck_settledFrom (c : Cause) (bad : Nat → Bool) :
    Scan.SettledFrom fun n bs => scanCheck (bad (n - bs.length)) c bs := by
  intro n bs more _
  have hread : n + more.length - (bs ++ more).length = n - bs.length := by
    rw [List.length_append]
    omega
  simpa only [hread] using scanCheck_settled (bad (n - bs.length)) c bs more

/-- `WD_PARSE` from the target length, field 5, on (R212); `n` is the number of bytes from there on, which the test of `deltaLen` looks back to. -/
def scanFromTargetLen (cfg : Cfg) (version wi : Byte) (seg : Nat × Nat) (dl n : Nat) (bs : Bytes) : Scan ParsedWindow :=
  (scanVar varintMax bs).bind fun tl bs =>
  (scanCheck (decide (cfg.maxWindowSize < tl)) .windowTooLarge bs).bind fun _ bs =>
  (scanByte bs).bind fun di bs =>
  (scanCheck (di != 0) .secondaryCompression bs).bind fun _ bs =>
  (scanVar varintMax bs).bind fun ld bs =>
  (scanVar varintMax bs).bind fun li bs =>
  (scanVar varintMax bs).bind fun la bs =>
  (scanChecksum version wi bs).bind fun ck bs =>
  (scanCheck (n - bs.length + ld + li + la != dl) .lengthInvariant bs).bind fun _ bs =>
  (scanSections (windowMode ld li la) ld li la bs).bind fun sections bs =>
    .ok ⟨⟨wi, seg.1, seg.2, dl, tl, di, ld, li, la, ck.isSome, ck.getD 0, windowMode ld li la⟩, ck, sections⟩ bs

theorem scanWindow_eq_scanFromTargetLen (cfg : Cfg) (dictLen : Nat) (version : Byte) :
    scanWindow cfg dictLen version = fun bs =>
      (scanByte bs).bind fun wi bs =>
      (scanCheck (wi &&& 0x02 != 0) .targetWindowUnsupported bs).bind fun _ bs =>
      (scanCheck (wi &&& 0xF8 != 0) .reservedBits bs).bind fun _ bs =>
      (scanSegment dictLen wi bs).bind fun seg bs =>
      (scanVar varintMax bs).bind fun dl bs => scanFromTargetLen cfg version wi seg dl bs.length bs := rfl

theorem scanFromTargetLen_settledFrom (cfg : Cfg) (version wi : Byte) (seg : Nat × Nat) (dl : Nat) :
    Scan.SettledFrom (scanFromTargetLen cfg version wi seg dl) := by
  unfold scanFromTargetLen
  refine (scanVar_settled _).from.bind (fun _ => scanVar_shorter _) fun tl => ?_
  refine (scanCheck_settled _ _).from.bind (fun _ => scanCheck_shorter _ _) fun _ => ?_
  refine scanByte_settled.from.bind (fun _ => scanByte_shorter) fun di => ?_
  refine (scanCheck_settled _ _).from.bind (fun _ => scanCheck_shorter _ _) fun _ => ?_
  refine (scanVar_settled _).from.bind (fun _ => scanVar_shorter _) fun ld => ?_
  refine (scanVar_settled _).from.bind (fun _ => scanVar_shorter _) fun li => ?_
  refine (scanVar_settled _).from.bind (fun _ => scanVar_shorter _) fun la => ?_
  refine (scanChecksum_settled _ _).from.bind (fun _ => scanChecksum_shorter _ _) fun ck => ?_
  refine Scan.SettledFrom.bind (scanCheck_settledFrom _ fun k => k + ld + li + la != dl)
    (fun _ bs a r h => ?_) fun _ => ?_
  · exact scanCheck_shorter _ _ bs a r h
  · exact ((scanSections_settled _ _ _ _).bind fun _ => Scan.Settled.ok _).from

/-- R213: the window's fields are read one after another, and only the test of `deltaLen` looks back. -/
theorem scanWindow_settled (cfg : Cfg) (dictLen : Nat) (version : Byte) : Scan.Settled (scanWindow cfg dictLen version) := by
  rw [scanWindow_eq_scanFromTargetLen]
  refine scanByte_settled.bind fun wi => ?_
  refine (scanCheck_settled _ _).bind fun _ => ?_
  refine (scanCheck_settled _ _).bind fun _ => ?_
  refine (scanSegment_settled _ _).bind fun seg => ?_
  refine (scanVar_settled _).bind fun dl => ?_
  exact (scanFromTargetLen_settledFrom cfg version wi seg dl).settled

/-! ### `WD_PARSE` as the operation (R213, R283) -/

theorem Decoder.wdParse_outOfOrder {d : Decoder} (h : d.streamVersion = none ∨ d.stage ≠ .closed) :
    d.wdParse = .err d .seqOrder := by
  unfold Decoder.wdParse
  split
  · next hv hs => simp [hv, hs] at h
  · rfl

/-- In its place `WD_PARSE` answers as the scan of the unread bytes does. -/
theorem Decoder.wdParse_inOrder {d : Decoder} {v : Byte} (hv : d.streamVersion = some v) (hs : d.stage = .closed) :
    (scanWindow d.cfg d.dict.len v d.unread = .eod → d.wdParse = .eod d) ∧
    (∀ c, scanWindow d.cfg d.dict.len v d.unread = .err c → d.wdParse = .err d c) ∧
    ∀ w rest, scanWindow d.cfg d.dict.len v d.unread = .ok w rest → d.wdParse = .ok (d.commitWindow w rest) () := by
  refine ⟨fun h => ?_, fun c h => ?_, fun w rest h => ?_⟩ <;> simp [Decoder.wdParse, hv, hs, h]

/-- `WD_PARSE` is out of order, or answers as the scan of the unread bytes does: only an `Ok` changes the session. -/
theorem Decoder.wdParse_cases (d : Decoder) :
    ((d.streamVersion = none ∨ d.stage ≠ .closed) ∧ d.wdParse = .err d .seqOrder) ∨
    ∃ v, d.streamVersion = some v ∧ d.stage = .closed ∧
      ((scanWindow d.cfg d.dict.len v d.unread = .eod ∧ d.wdParse = .eod d) ∨
        (∃ c, scanWindow d.cfg d.dict.len v d.unread = .err c ∧ d.wdParse = .err d c) ∨
        ∃ w rest, scanWindow d.cfg d.dict.len v d.unread = .ok w rest ∧ d.wdParse = .ok (d.commitWindow w rest) ()) := by
  by_cases h : d.streamVersion = none ∨ d.stage ≠ .closed
  · exact .inl ⟨h, Decoder.wdParse_outOfOrder h⟩
  · obtain ⟨hne, hs⟩ := not_or.mp h
    obtain ⟨v, hv⟩ := Option.ne_none_iff_exists'.mp hne
    have hs := not_not.mp hs
    obtain ⟨heod, herr, hok⟩ := Decoder.wdParse_inOrder hv hs
    refine .inr ⟨v, hv, hs, ?_⟩
    cases hw : scanWindow d.cfg d.dict.len v d.unread with
    | eod => exact .inl ⟨rfl, heod hw⟩
    | err c => exact .inr (.inl ⟨c, rfl, herr c hw⟩)
    | ok w rest => exact .inr (.inr ⟨w, rest, rfl, hok w rest hw⟩)

/-- The session with more bytes in `DELTA_IN`. -/
def Decoder.supplied (d : Decoder) (more : Bytes) : Decoder :=
  { d with deltaIn := d.deltaIn.append more }

theorem Decoder.supplied_unread {d : Decoder} (h : d.inPos ≤ d.deltaIn.len) (more : Bytes) :
    (d.supplied more).unread = d.unread ++ more := by
  have hpos : d.inPos ≤ d.deltaIn.bytes.length := by simpa using h
  simp [Decoder.unread, Decoder.supplied, List.drop_append_of_le_length hpos]

/-- The commit of a window counts the bytes it read, not those behind them. -/
theorem Decoder.supplied_commitWindow {d : Decoder} (h : d.inPos ≤ d.deltaIn.len) (w : ParsedWindow) (rest more : Bytes) :
    (d.supplied more).commitWindow w (rest ++ more) = (d.commitWindow w rest).supplied more := by
  have hread : (d.unread ++ more).length - (rest ++ more).length = d.unread.length - rest.length := by
    rw [List.length_append, List.length_append, Nat.add_sub_add_right]
  unfold Decoder.commitWindow
  rw [Decoder.supplied_unread h, hread]
  cases w.sections <;> rfl

/-- R213 for the operation: the same `ERROR` or `Ok` on more bytes, those left over. -/
theorem Decoder.supplied_wdParse {d d1 : Decoder} (h : d.inPos ≤ d.deltaIn.len) (more : Bytes) :
    (∀ c, d.wdParse = .err d1 c → (d.supplied more).wdParse = .err (d1.supplied more) c) ∧
    (d.wdParse = .ok d1 () → (d.supplied more).wdParse = .ok (d1.supplied more) ()) := by
  rcases d.wdParse_cases with ⟨horder, hd⟩ | ⟨v, hv, hs, hscan⟩
  · refine ⟨fun c he => ?_, fun he => ?_⟩ <;> rw [hd] at he <;> cases he
    exact Decoder.wdParse_outOfOrder horder
  obtain ⟨-, herr, hok⟩ := Decoder.wdParse_inOrder (d := d.supplied more) hv hs
  rw [Decoder.supplied_unread h] at herr hok
  obtain ⟨hmoreErr, hmoreOk⟩ := scanWindow_settled d.cfg d.dict.len v d.unread more
  rcases hscan with ⟨-, hd⟩ | ⟨c, hw, hd⟩ | ⟨w, rest, hw, hd⟩ <;> rw [hd] <;> refine ⟨fun c' he => ?_, fun he => ?_⟩ <;>
    cases he
  · exact herr c (hmoreErr c hw)
  · rw [← Decoder.supplied_commitWindow h]
    exact hok w _ (hmoreOk w rest hw)

/-- Settles O29: the scan is settled, and the operation answers as the scan does. -/
theorem windowParseAllOrNothing : Obligations.WindowParseAllOrNothing := by
  refine ⟨scanWindow_settled, fun d d1 => ?_, fun d d1 more h => Decoder.supplied_wdParse h more⟩
  rcases d.wdParse_cases with ⟨-, hd⟩ | ⟨-, -, -, ⟨-, hd⟩ | ⟨c, -, hd⟩ | ⟨w, rest, -, hd⟩⟩ <;> rw [hd] <;>
    refine ⟨fun he => ?_, fun c' he => ?_⟩ <;> cases he <;> rfl

/-! ### The limit on the target length (R215, R253) -/

/-- Field 5 is tested as soon as it is readable, whatever follows. -/
theorem scanFromTargetLen_tooLarge {cfg : Cfg} {targetLen : Nat} (hmax : targetLen ≤ varintMax)
    (hlarge : cfg.maxWindowSize < targetLen) (version wi : Byte) (seg : Nat × Nat) (dl n : Nat) (more : Bytes) :
    scanFromTargetLen cfg version wi seg dl n (varintEncode targetLen ++ more) = .err .windowTooLarge := by
  simp [scanFromTargetLen, scanVar_encode hmax, scanCheck, hlarge]

/-- R214: the fields of a source segment that lies in the dictionary. -/
theorem scanSegment_encoded {dictLen segLen segPos : Nat} {wi : Byte} (hwi : wi &&& 0x01 ≠ 0) (hfit : segPos + segLen ≤ dictLen)
    (hlen : segLen ≤ varintMax) (hpos : segPos ≤ varintMax) (rest : Bytes) :
    scanSegment dictLen wi (varintEncode segLen ++ (varintEncode segPos ++ rest)) = .ok (segLen, segPos) rest := by
  rw [scanSegment, if_neg hwi]
  simp [scanVar_encode hlen, scanVar_encode hpos, scanCheck, Nat.not_lt.mpr hfit]

/-- Settles O30: with and without a source segment the fields before the target length read back, and then it is refused. -/
theorem windowTooLarge : Obligations.WindowTooLarge := by
  intro cfg dictLen version segLen segPos deltaLen targetLen more hfit hseg hpos hdelta htarget hlarge
  have hrefused := scanFromTargetLen_tooLarge htarget hlarge version
  rw [scanWindow_eq_scanFromTargetLen]
  refine ⟨?_, ?_⟩
  · have hsegment := scanSegment_encoded (wi := 1#8) (by decide) hfit hseg hpos
    simp [scanByte, scanCheck, hsegment, scanVar_encode hdelta, hrefused]
  · simp [scanByte, scanCheck, scanSegment, scanVar_encode hdelta, hrefused]

end Sys2Proof.Machine
end

section
/-! PROOFS, family 49_body_decoder.md. What the instructions do when they complete, run out of bytes or run in pairs (spec/49_body_decoder.md R225 to R235), the completion of a window (R233), and Adler-32 (R234). -/

namespace Sys2Proof.Machine

/-! ### Where the literals come from (R225) -/

theorem Decoder.literals_standard {d : Decoder} (h : d.win.mode = .standard) :
    d.literals = ⟨.secData, d.secData, d.dpos, d.win.lenData⟩ := by
  simp only [Decoder.literals, h]

theorem Decoder.literals_interleaved {d : Decoder} (h : d.win.mode = .interleaved) :
    d.literals = ⟨.carry, d.carry, d.ipos, d.iend⟩ := by
  simp only [Decoder.literals, h]

/-- A source that holds `n` bytes from its cursor to its limit begins with the `n` bytes at its cursor. -/
theorem Source.take_bytes {x : Source} {n : Nat} (hn : x.pos + n ≤ x.lim) (hlim : x.lim ≤ x.space.len) :
    n ≤ x.bytes.length ∧ x.bytes.take n = x.space.slice x.pos n := by
  refine ⟨?_, Memory.slice_take _ _ _ _ (by omega)⟩
  rw [Source.bytes, Memory.slice_length]
  omega

/-- A source whose byte at the cursor exists below the limit begins with it. -/
theorem Source.bytes_cons {x : Source} {b : Byte} (hlim : x.pos < x.lim) (hb : x.space.bytes[x.pos]? = some b) :
    ∃ bs, x.bytes = b :: bs := by
  obtain ⟨hlt, rfl⟩ := List.getElem?_eq_some_iff.mp hb
  obtain ⟨k, hk⟩ : ∃ k, x.lim - x.pos = k + 1 := ⟨x.lim - x.pos - 1, by omega⟩
  exact ⟨_, by rw [Source.bytes, Memory.slice, List.drop_eq_getElem_cons hlt, hk, List.take_succ_cons]⟩

theorem Decoder.literals_cons_standard {d : Decoder} {b : Byte} (hm : d.win.mode = .standard) (hpos : d.dpos < d.win.lenData)
    (hb : d.secData.bytes[d.dpos]? = some b) : ∃ bs, d.literals.bytes = b :: bs := by
  rw [Decoder.literals_standard hm]
  exact Source.bytes_cons hpos hb

theorem Decoder.literals_cons_interleaved {d : Decoder} {b : Byte} (hm : d.win.mode = .interleaved) (hpos : d.ipos < d.iend)
    (hb : d.carry.bytes[d.ipos]? = some b) : ∃ bs, d.literals.bytes = b :: bs := by
  rw [Decoder.literals_interleaved hm]
  exact Source.bytes_cons hpos hb

@[simp] theorem Decoder.recorded_literals (d : Decoder) (t : Triple) : (d.recorded t).literals = d.literals := by
  unfold Decoder.recorded; split <;> rfl

/-! ### `ADD` and `RUN` complete (R228, R229) -/

/-- A delivered instruction whose `Exec` appends literals and moves the literal cursor to `p`: in an interleaved window that is `ipos`, and nothing is left waiting (R225, R235). -/
theorem Decoder.issue_literal {d : Decoder} {t : Triple} {bs : Bytes} {p : Nat}
    (hfit : d.decoded.len + t.size ≤ d.win.targetLen)
    (h : (d.recorded t).perform t =
      .ok (Decoder.setLiteralPos { d.recorded t with decoded := d.decoded.append bs } p) ()) :
    (d.win.mode = .standard → d.issue t = .ok { d with decoded := d.decoded.append bs, dpos := p } ()) ∧
    (d.win.mode = .interleaved → d.issue t =
      .ok { d with decoded := d.decoded.append bs, ipos := p, pendingInst := none } ()) := by
  refine ⟨fun hm => ?_, fun hm => ?_⟩ <;> simp only [Decoder.recorded, hm] at h
  · rw [Decoder.issue_standard hfit hm, h]
    simp [Decoder.setLiteralPos, hm]
  · rw [Decoder.issue_interleaved hfit hm, Decoder.retry, h]
    simp [Decoder.setLiteralPos, hm]

theorem Decoder.issue_add {d : Decoder} {size : Nat} (hfit : d.decoded.len + size ≤ d.win.targetLen)
    (hbytes : size ≤ d.literals.bytes.length) :
    (d.win.mode = .standard → d.issue ⟨.add, size, 0⟩ = .ok { d with
      decoded := d.decoded.append (d.literals.bytes.take size), dpos := d.literals.pos + size } ()) ∧
    (d.win.mode = .interleaved → d.issue ⟨.add, size, 0⟩ = .ok { d with
      decoded := d.decoded.append (d.literals.bytes.take size), ipos := d.literals.pos + size, pendingInst := none } ()) := by
  apply Decoder.issue_literal hfit
  simp [Decoder.perform, Decoder.doAdd, Nat.not_lt.mpr hbytes]

theorem Decoder.issue_run {d : Decoder} {size : Nat} {b : Byte} {bs : Bytes} (hfit : d.decoded.len + size ≤ d.win.targetLen)
    (hbytes : d.literals.bytes = b :: bs) :
    (d.win.mode = .standard → d.issue ⟨.run, size, 0⟩ = .ok { d with
      decoded := d.decoded.append (List.replicate size b), dpos := d.literals.pos + 1 } ()) ∧
    (d.win.mode = .interleaved → d.issue ⟨.run, size, 0⟩ = .ok { d with
      decoded := d.decoded.append (List.replicate size b), ipos := d.literals.pos + 1, pendingInst := none } ()) := by
  apply Decoder.issue_literal hfit
  simp [Decoder.perform, Decoder.doRun, hbytes]

/-- `ADD` in a standard window takes its bytes from the data section. -/
theorem Decoder.issue_add_standard {d : Decoder} {size : Nat} (hfit : d.decoded.len + size ≤ d.win.targetLen)
    (hm : d.win.mode = .standard) (hpos : d.dpos + size ≤ d.win.lenData) (hlen : d.win.lenData ≤ d.secData.len) :
    d.issue ⟨.add, size, 0⟩ = .ok { d with
      decoded := d.decoded.append (d.secData.slice d.dpos size), dpos := d.dpos + size } () := by
  have hsource := Decoder.literals_standard hm
  obtain ⟨hbytes, htake⟩ := Source.take_bytes (x := d.literals) (n := size) (by rwa [hsource]) (by rwa [hsource])
  rw [(Decoder.issue_add hfit hbytes).1 hm, htake, hsource]

/-- `ADD` in an interleaved window takes its bytes from `carry`. -/
theorem Decoder.issue_add_interleaved {d : Decoder} {size : Nat} (hfit : d.decoded.len + size ≤ d.win.targetLen)
    (hm : d.win.mode = .interleaved) (hpos : d.ipos + size ≤ d.iend) (hlen : d.iend ≤ d.carry.len) :
    d.issue ⟨.add, size, 0⟩ = .ok { d with
      decoded := d.decoded.append (d.carry.slice d.ipos size), ipos := d.ipos + size, pendingInst := none } () := by
  have hsource := Decoder.literals_interleaved hm
  obtain ⟨hbytes, htake⟩ := Source.take_bytes (x := d.literals) (n := size) (by rwa [hsource]) (by rwa [hsource])
  rw [(Decoder.issue_add hfit hbytes).2 hm, htake, hsource]

/-- Settles O31: a single opcode of type `ADD` is the delivered `ADD` of its triple. -/
theorem addCompletes : Obligations.AddCompletes := by
  intro i size s hfirst hsecond hrun hfit
  refine ⟨fun hm hpos hlen => exec_single_ok hsecond hrun ?_, fun hm hpos hlen => exec_single_ok hsecond hrun ?_⟩ <;> rw [hfirst]
  · exact Decoder.issue_add_standard hfit hm hpos hlen
  · exact Decoder.issue_add_interleaved hfit hm hpos hlen

/-- Settles O32: `RUN_V` is the delivered `RUN` of its size. -/
theorem runCompletes : Obligations.RunCompletes := by
  intro size b s hrun hfit
  refine ⟨fun hm hpos hb => exec_single_ok rfl hrun ?_, fun hm hpos hb => exec_single_ok rfl hrun ?_⟩
  · obtain ⟨bs, hbytes⟩ := Decoder.literals_cons_standard hm hpos hb
    have hissue := (Decoder.issue_run hfit hbytes).1 hm
    rwa [Decoder.literals_standard hm] at hissue
  · obtain ⟨bs, hbytes⟩ := Decoder.literals_cons_interleaved hm hpos hb
    have hissue := (Decoder.issue_run hfit hbytes).2 hm
    rwa [Decoder.literals_interleaved hm] at hissue

/-! ### Compound opcodes (R231) -/

/-- In a running body a single instruction is the delivered instruction of its triple. -/
theorem exec_single_running {i : Instr} {s : State} (hi : i.second = none) (hrun : s.dec.running) :
    exec i s = s.settle (s.dec.issue i.first) := by
  rw [exec_single hi, State.runSingle, State.inBody_running hrun.1 hrun.2]

/-- When the first half of a compound opcode completes, the second is delivered, or stays pending at the target length. -/
theorem exec_pair_first_ok {i : Instr} {u : Triple} {s : State} {d : Decoder} (hi : i.second = some u) (hrun : s.dec.running)
    (hok : s.dec.issue i.first = .ok d ()) :
    (d.outputFull = false → exec i s = s.settle (Decoder.issue { d with pendingSecond := none } u)) ∧
    (d.outputFull = true →
      exec i s = .next { s with dec := { d with pendingSecond := some (BitVec.ofNat 8 i.opcode) } }) := by
  have hfull : ∀ p, Decoder.outputFull { d with pendingSecond := p } = d.outputFull := fun _ => rfl
  rw [exec_pair hi, State.runPair, State.inBody_running hrun.1 hrun.2, Decoder.issuePair, Decoder.issue_pending, hok]
  refine ⟨fun h => ?_, fun h => ?_⟩ <;> simp [Act.setPending, hfull, h]

/-- A compound opcode whose halves both complete answers the next state, with the session they leave. -/
theorem exec_pair_ok {i : Instr} {u : Triple} {s : State} {d d1 : Decoder} (hi : i.second = some u) (hrun : s.dec.running)
    (hfirst : s.dec.issue i.first = .ok d ()) (hroom : d.decoded.len < d.win.targetLen)
    (hsecond : Decoder.issue { d with pendingSecond := none } u = .ok d1 ()) : exec i s = .next { s with dec := d1 } := by
  have hfull : d.outputFull = false := decide_eq_false (Nat.not_le.mpr hroom)
  rw [(exec_pair_first_ok hi hrun hfirst).1 hfull, hsecond, State.settle_ok]

theorem Decoder.FramedBy.stage {d d1 : Decoder} {n : Nat} (h : d.FramedBy n d1) : d1.stage = d.stage := by
  obtain ⟨-, -, -, -, -, -, -, -, -, -, -, -, -, -, -, -, hstage, -⟩ := h.frame
  exact hstage

/-- A single instruction that answers a session neither failed nor waiting has completed. -/
theorem exec_single_completed {i : Instr} {s s1 : State} (hi : i.second = none) (hrun : s.dec.running)
    (h : exec i s = .next s1) (hfailed : s1.dec.failed = none) (hwaiting : s1.dec.waiting = none) :
    ∃ d, s.dec.issue i.first = .ok d () ∧ s1 = { s with dec := d } ∧ d.running := by
  have hissued := Decoder.issue_issued s.dec i.first
  rw [exec_single_running hi hrun] at h
  rcases State.settle_next.mp h with ⟨d, e, rfl⟩ | ⟨d, e, rfl⟩ | ⟨d, c, e, rfl⟩
  · rw [e] at hissued
    exact ⟨d, e, rfl, hfailed, hissued.framed.stage.trans hrun.2⟩
  · have hwait : d.waiting = none := hwaiting
    exact absurd hwait (Decoder.issue_eod_waiting e)
  · cases hfailed

/-- Settles O36: the first half completes as the single opcode does, and leaves a running body for the second. -/
theorem compoundIsItsHalves : Obligations.CompoundIsItsHalves := by
  intro i i1 i2 s s1 hi hfirst h1 h2 hexec hrun hfailed hwaiting
  obtain ⟨d, hok, rfl, hd⟩ := exec_single_completed h1 hrun hexec hfailed hwaiting
  rw [← hfirst] at hok
  obtain ⟨hgo, hstop⟩ := exec_pair_first_ok hi hrun hok
  refine ⟨fun hfull => ?_, hstop⟩
  rw [hgo hfull, exec_single_running h2 hd]
  rfl

theorem Memory.slice_full {m : Memory} {pos n : Nat} (h : pos + n ≤ m.len) : (m.slice pos n).length = n := by
  rw [Memory.slice_length]
  omega

/-- A compound opcode that ends in a `COPY`: once its first half has left `d`, the `COPY` is that of `d` (R230, R231). -/
theorem exec_pair_copy {i : Instr} {c mode a : Nat} {rest : Bytes} {cache : AddrCache} {s : State} {d : Decoder}
    (hi : i.second = some ⟨.copy, c, mode⟩) (hrun : s.dec.running) (hfirst : s.dec.issue i.first = .ok d ())
    (hspace : d.copySpaceFits) (hfit : d.decoded.len + c ≤ d.win.targetLen)
    (haddr : d.cache.decode d.cfg mode d.here d.addresses.bytes = .ok a rest cache)
    (hadmit : d.cfg.targetCopyMode = .refuse → a + c ≤ d.win.srcSegLen) :
    ∃ bs : Bytes, bs.length = c ∧ d.copied a bs ∧
      (d.win.mode = .standard → exec i s = .next { s with dec := { d with
        decoded := d.decoded.append bs, apos := d.addresses.posAfter rest, cache := cache, pendingSecond := none } }) ∧
      (d.win.mode = .interleaved → exec i s = .next { s with dec := { d with
        decoded := d.decoded.append bs, ipos := d.addresses.posAfter rest, cache := cache, pendingSecond := none,
        pendingInst := none } }) := by
  obtain ⟨-, -, hc⟩ := Instr.second_cases hi
  have hroom : d.decoded.len < d.win.targetLen := Nat.lt_of_lt_of_le (Nat.lt_add_of_pos_right hc) hfit
  obtain ⟨bs, hbs, hcopied, hstandard, hinterleaved⟩ :=
    Decoder.issue_copy_completes (d := { d with pendingSecond := none }) hspace hfit haddr hadmit
  exact ⟨bs, hbs, hcopied, fun hm => exec_pair_ok hi hrun hfirst hroom (hstandard hm),
    fun hm => exec_pair_ok hi hrun hfirst hroom (hinterleaved hm)⟩

/-- Settles O34: `ADD` completes below the target length, and the `COPY` reads its address with `here` past the literals. -/
theorem addCopyCompletes : Obligations.AddCopyCompletes := by
  intro i n c mode a rest cache s hfirst hsecond hrun ⟨hdict, hdecoded, hseg⟩ hfit hadmit
  refine ⟨fun hm hpos hlen haddr => ?_, fun hm hpos hlen haddr => ?_⟩
  · have hadd := Decoder.issue_add_standard (by omega) hm hpos hlen
    have hcount := Memory.slice_full (hpos.trans hlen)
    rw [← hfirst] at hadd
    obtain ⟨bs, hbs, hcopied, hexec, -⟩ := exec_pair_copy hsecond hrun hadd ⟨hdict, Memory.wf_append hdecoded _, hseg⟩
      (by simpa [hcount] using hfit) (by simpa [Decoder.here, Decoder.addresses, hm, hcount, Source.bytes] using haddr) hadmit
    refine ⟨bs, hbs, hcopied, (hexec hm).trans ?_⟩
    simp only [Source.posAfter, Decoder.addresses, hm, Source.bytes]
  · have hadd := Decoder.issue_add_interleaved (by omega) hm hpos hlen
    have hcount := Memory.slice_full (hpos.trans hlen)
    rw [← hfirst] at hadd
    obtain ⟨bs, hbs, hcopied, -, hexec⟩ := exec_pair_copy hsecond hrun hadd ⟨hdict, Memory.wf_append hdecoded _, hseg⟩
      (by simpa [hcount] using hfit) (by simpa [Decoder.here, Decoder.addresses, hm, hcount, Source.bytes] using haddr) hadmit
    refine ⟨bs, hbs, hcopied, (hexec hm).trans ?_⟩
    simp only [Source.posAfter, Decoder.addresses, hm, Source.bytes]

/-- `ADD` of the one literal byte at the cursor. -/
theorem Decoder.issue_add_one {d : Decoder} {b : Byte} (hfit : d.decoded.len + 1 ≤ d.win.targetLen) :
    (d.win.mode = .standard → d.dpos < d.win.lenData → d.secData.bytes[d.dpos]? = some b →
      d.issue ⟨.add, 1, 0⟩ = .ok { d with decoded := d.decoded.append [b], dpos := d.dpos + 1 } ()) ∧
    (d.win.mode = .interleaved → d.ipos < d.iend → d.carry.bytes[d.ipos]? = some b →
      d.issue ⟨.add, 1, 0⟩ = .ok { d with decoded := d.decoded.append [b], ipos := d.ipos + 1, pendingInst := none } ()) := by
  refine ⟨fun hm hpos hb => ?_, fun hm hpos hb => ?_⟩
  · obtain ⟨bs, hbytes⟩ := Decoder.literals_cons_standard hm hpos hb
    rw [(Decoder.issue_add hfit (by simp [hbytes])).1 hm, hbytes, Decoder.literals_standard hm]
    rfl
  · obtain ⟨bs, hbytes⟩ := Decoder.literals_cons_interleaved hm hpos hb
    rw [(Decoder.issue_add hfit (by simp [hbytes])).2 hm, hbytes, Decoder.literals_interleaved hm]
    rfl

/-- Settles O35: `COPY` completes below the target length, and the `ADD` reads its literal past the address field where the window is interleaved. -/
theorem copyAddCompletes : Obligations.CopyAddCompletes := by
  intro i mode a b rest cache s hfirst hsecond hrun hspace hfit hadmit haddr
  obtain ⟨bs, hbs, hcopied, hstandard, hinterleaved⟩ := Decoder.issue_copy_completes (size := 4) hspace (by omega) haddr hadmit
  have hroom : (s.dec.decoded.append bs).len + 1 ≤ s.dec.win.targetLen := by
    rw [Memory.append_len]
    omega
  refine ⟨bs, hbs, hcopied, fun hm hpos hb => ?_, fun hm hpos hb => ?_⟩
  · have hcopy := hstandard hm
    rw [Decoder.addresses_posAfter_standard hm, ← hfirst] at hcopy
    exact exec_pair_ok hsecond hrun hcopy hroom ((Decoder.issue_add_one hroom).1 hm hpos hb)
  · have hcopy := hinterleaved hm
    rw [Decoder.addresses_posAfter_interleaved hm, ← hfirst] at hcopy
    exact exec_pair_ok hsecond hrun hcopy hroom ((Decoder.issue_add_one hroom).2 hm hpos hb)

/-! ### Instructions that are refused or run out of bytes (R227, R232, R235) -/

/-- Settles O40: the size check comes first, so the overrun is the error of the delivered instruction. -/
theorem overrunIsRefused : Obligations.OverrunIsRefused := fun _ _ hrun hover =>
  exec_err hrun (Decoder.issue_overrun hover)

/-- The bytes an instruction reads first end before it has them: its literals for `ADD` and `RUN`, its address field for `COPY` (R225). -/
def Decoder.lacks (d : Decoder) (t : Triple) : Prop :=
  t.inst = .add ∧ d.literals.lim - d.literals.pos < t.size
    ∨ t.inst = .run ∧ d.literals.lim ≤ d.literals.pos
    ∨ t.inst = .copy ∧ d.cache.decode d.cfg t.mode d.here d.addresses.bytes = .eod

theorem Source.bytes_length_le (x : Source) : x.bytes.length ≤ x.lim - x.pos := by
  rw [Source.bytes, Memory.slice_length]
  omega

/-- `Exec` of an instruction that lacks its bytes waits, nothing of it consumed (R228 to R230). -/
theorem Decoder.perform_of_lacks {d : Decoder} {t : Triple} (hbuf : d.buffersFit) (h : d.lacks t) : d.perform t = .eod d := by
  have hlen := d.literals.bytes_length_le
  rcases h with ⟨hi, hlt⟩ | ⟨hi, hle⟩ | ⟨hi, hread⟩ <;> simp only [Decoder.perform, hi]
  · have hshort : d.literals.bytes.length < t.size := hlen.trans_lt hlt
    rw [Decoder.doAdd, if_pos hshort, Source.ranOut_eod hbuf.1]
  · have hnone : d.literals.bytes = [] := List.eq_nil_of_length_eq_zero (by omega)
    simp only [Decoder.doRun, hnone, Source.ranOut_eod hbuf.1]
  · simp only [Decoder.doCopy, hread, Source.ranOut_eod hbuf.2]

/-- A delivered instruction that lacks its bytes asks for more, recorded as pending in an interleaved window (R227, R235). -/
theorem Decoder.issue_of_lacks {d : Decoder} {t : Triple} (hfit : d.decoded.len + t.size ≤ d.win.targetLen)
    (hbuf : d.buffersFit) (h : d.lacks t) : d.issue t = (d.recorded t).needMore := by
  have hwait : (d.recorded t).perform t = .eod (d.recorded t) :=
    Decoder.perform_of_lacks (by simpa [Decoder.buffersFit] using hbuf) (by simpa [Decoder.lacks] using h)
  cases hm : d.win.mode <;> simp only [Decoder.recorded, hm] at hwait ⊢
  · rw [Decoder.issue_standard hfit hm, hwait]
  · rw [Decoder.issue_interleaved hfit hm, Decoder.retry, hwait]

/-- Settles O41: in a standard window an instruction that lacks its bytes is `TRUNCATED_SECTION`. -/
theorem truncatedStandard : Obligations.TruncatedStandard := by
  intro i s hrun hm hbuf hfit hshort
  have hlacks : s.dec.lacks i.first := by rwa [Decoder.lacks, Decoder.literals_standard hm]
  refine exec_err hrun ((Decoder.issue_of_lacks hfit hbuf hlacks).trans ?_)
  simp only [Decoder.recorded, Decoder.needMore, hm]

/-- Settles O42: in an interleaved window it is recorded, and waits exactly while bytes of the section are outstanding. -/
theorem interleavedWaits : Obligations.InterleavedWaits := by
  intro i s hrun hm hbuf hfit hshort
  have hlacks : s.dec.lacks i.first := by rwa [Decoder.lacks, Decoder.literals_interleaved hm]
  have hissue := Decoder.issue_of_lacks hfit hbuf hlacks
  simp only [Decoder.recorded, Decoder.needMore, hm] at hissue
  split <;> rename_i hrem
  · exact exec_err hrun (hissue.trans (if_pos hrem))
  · exact exec_eod hrun (hissue.trans (if_neg hrem))

/-! ### Window completion (R233, R237) -/

/-- Every decode operation in the body of a window goes on with that body. -/
theorem step_inBody {s : State}
    (h : s.dec.call = some .bdRun ∨ s.dec.call = some .bdStep ∨ ∃ w0, s.dec.call = some (.decodeCall w0) ∧ s.dec.phase = .body) :
    step s = s.bodyPass := by
  rcases h with h | h | ⟨w0, h, hphase⟩
  · exact step_body (.inl h)
  · exact step_body (.inr h)
  · simp [step, State.stepOnce, h, State.advance, State.callPass, hphase]

theorem State.bodyPass_full {s : State} (hs : s.dec.stage = .started) (hfull : s.dec.win.targetLen ≤ s.dec.decoded.len) :
    s.bodyPass = s.completeWindow := by
  simp [State.bodyPass, hs, Decoder.outputFull, hfull]

/-- What is left over once the target length is reached, in both window modes (R233). -/
theorem Decoder.hasExcess_iff (d : Decoder) :
    d.hasExcess = true ↔ d.ipos ≠ d.iend ∨ d.pendingSecond ≠ none
      ∨ (d.win.mode = .standard ∧ (d.dpos ≠ d.win.lenData ∨ d.apos ≠ d.win.lenAddr))
      ∨ (d.win.mode = .interleaved ∧ d.remaining ≠ 0) := by
  cases hm : d.win.mode <;> simp [Decoder.hasExcess, hm, Option.isSome_iff_ne_none] <;> tauto

theorem State.completeWindow_excess {s : State} (h : s.dec.hasExcess = true) :
    s.completeWindow = .next (s.raise .decode .excessData) := by
  simp [State.completeWindow, Decoder.complete, h]

theorem State.completeWindow_mismatch {s : State} (h : s.dec.hasExcess = false) (hck : s.dec.checksumOk = false) :
    s.completeWindow = .next (s.raise .decode .checksumMismatch) := by
  simp [State.completeWindow, Decoder.complete, h, hck]

theorem State.completeWindow_commits {s : State} (h : s.dec.hasExcess = false) (hck : s.dec.checksumOk = true) :
    s.completeWindow = .next (s.windowDone { s.dec with
      tgtOut := s.dec.tgtOut.append s.dec.decoded.bytes, written := s.dec.written + s.dec.decoded.len
      decoded := [], stage := .closed }) := by
  simp [State.completeWindow, Decoder.complete, h, hck]

/-- Settles O46: leftover bytes, then the checksum, then the commit, which `DECODE_CALL` alone goes on after. -/
theorem windowCompletes : Obligations.WindowCompletes := by
  intro s hcall hstage hfull
  have hstep : step s = s.completeWindow := (step_inBody hcall).trans (State.bodyPass_full hstage hfull)
  refine ⟨fun h => hstep.trans (State.completeWindow_excess (s.dec.hasExcess_iff.mpr h)), fun hi hp hstd hint => ?_⟩
  have hnone : s.dec.hasExcess = false := by
    rw [← Bool.not_eq_true, s.dec.hasExcess_iff]
    rintro (h | h | ⟨hm, h | h⟩ | ⟨hm, h⟩)
    · exact h hi
    · exact h hp
    · exact h (hstd hm).1
    · exact h (hstd hm).2
    · exact h (hint hm)
  refine ⟨fun ⟨hhas, hne⟩ => ?_, fun hsum => ?_⟩
  · have hbad : s.dec.checksumOk = false := by
      rw [← Bool.not_eq_true, s.dec.checksumOk_iff]
      exact fun h => hne (h hhas)
    exact hstep.trans (State.completeWindow_mismatch hnone hbad)
  · have hok : s.dec.checksumOk = true := by
      rw [s.dec.checksumOk_iff]
      rcases hsum with h | h
      · simp [h]
      · exact fun _ => h
    rw [hstep, State.completeWindow_commits hnone hok]
    refine ⟨fun hc => ?_, fun w0 hc => ?_⟩
    · rcases hc with hc | hc <;> simp only [State.windowDone, hc]
    · simp only [State.windowDone, hc]

/-! ### Adler-32 (R234) -/

/-- The sum of the bytes of a sequence. -/
def byteSum (bs : Bytes) : Nat :=
  (bs.map BitVec.toNat).sum

/-- R234's loop keeps both sums below 65521, and the first is that of the bytes. -/
theorem adlerFrom_spec (bs : Bytes) : ∀ a b, a < 65521 → b < 65521 →
    (adlerFrom a b bs).1 = (a + byteSum bs) % 65521 ∧ (adlerFrom a b bs).2 < 65521 := by
  induction bs with
  | nil => intro a b ha hb; exact ⟨(Nat.mod_eq_of_lt ha).symm, hb⟩
  | cons x xs ih =>
    intro a b _ _
    obtain ⟨hsum, hlt⟩ := ih ((a + x.toNat) % 65521) ((b + (a + x.toNat) % 65521) % 65521)
      (Nat.mod_lt _ (by decide)) (Nat.mod_lt _ (by decide))
    refine ⟨?_, hlt⟩
    rw [adlerFrom, hsum, Nat.mod_add_mod, byteSum, byteSum, List.map_cons, List.sum_cons, Nat.add_assoc]

/-- The low half of Adler-32 is the sum of the bytes and 1, modulo 65521; the high half is below 65521. -/
theorem adler32_eq (bs : Bytes) : ∃ b < 65521, adler32 bs = b * 65536 + (1 + byteSum bs) % 65521 := by
  obtain ⟨hsum, hlt⟩ := adlerFrom_spec bs 1 0 (by decide) (by decide)
  exact ⟨_, hlt, by rw [adler32, hsum]⟩

theorem byteSum_append_cons (front back : Bytes) (x : Byte) :
    byteSum (front ++ x :: back) = byteSum front + byteSum back + x.toNat := by
  simp [byteSum]
  omega

/-- Two sequences that differ in one byte have different sums modulo 65521, which is above every byte. -/
theorem adler32_ne_of_byte_ne {x y : Byte} (h : x ≠ y) (front back : Bytes) :
    adler32 (front ++ x :: back) ≠ adler32 (front ++ y :: back) := by
  obtain ⟨b, -, hx⟩ := adler32_eq (front ++ x :: back)
  obtain ⟨c, -, hy⟩ := adler32_eq (front ++ y :: back)
  have hbytes : x.toNat ≠ y.toNat := fun he => h (BitVec.eq_of_toNat_eq he)
  rw [hx, hy, byteSum_append_cons, byteSum_append_cons]
  have := x.isLt
  have := y.isLt
  omega

/-- Settles O47: the byte with the flipped bit is another byte. -/
theorem adlerSeesOneBit : Obligations.AdlerSeesOneBit := by
  intro front back x y k hk hbit
  refine ⟨adler32_ne_of_byte_ne ?_ front back, ?_⟩
  · rintro rfl
    have hzero : BitVec.ofNat 8 (2 ^ k) = 0#8 := by rw [← hbit, BitVec.xor_self]
    interval_cases k <;> cases hzero
  · obtain ⟨b, hb, h⟩ := adler32_eq (front ++ x :: back)
    omega

end Sys2Proof.Machine
end

section
/-! PROOFS, the whole machine: the canonical form of every memory, at reset and after every step (spec/20_memory.md section 1; log 9), what a step in a body runs (spec/49_body_decoder.md section 2; log 6), and the order of operations (spec/70_reset_and_hazards.md R282, R283). -/

namespace Sys2Proof.Machine

/-! ### Memories in canonical form (log 9) -/

theorem Encoder.memoryWf_reset {dict : Memory} (h : dict.wf = true) (cfg : Cfg) : (Encoder.reset cfg dict).memoryWf :=
  ⟨h, rfl, rfl, rfl, rfl, rfl⟩

theorem Decoder.memoryWf_reset {dict : Memory} (h : dict.wf = true) (cfg : Cfg) : (Decoder.reset cfg dict).memoryWf :=
  ⟨h, rfl, rfl, rfl, rfl, rfl, rfl, rfl⟩

theorem State.EncodeMoved.memoryWf {s t : State} (hm : s.EncodeMoved t) (hs : s.memoryWf) : t.memoryWf := by
  obtain ⟨e, failed, hkept, henc, -⟩ := hm.enc
  exact ⟨by rw [henc]; exact hkept.memoryWf hs.1, by rw [hm.dec]; exact hs.2⟩

theorem State.DecodeMoved.memoryWf {s t : State} (hm : s.DecodeMoved t) (hs : s.memoryWf) : t.memoryWf := by
  obtain ⟨d, failed, call, hkept, hdec, -⟩ := hm.dec
  exact ⟨by rw [hm.enc]; exact hs.1, by rw [hdec]; exact hkept.memoryWf hs.2⟩

/-- The commit appends to `TGT_OUT` and empties `decoded`. -/
theorem State.Committed.memoryWf {s t : State} (hm : s.Committed t) (hs : s.memoryWf) : t.memoryWf := by
  obtain ⟨call, phase, hdec⟩ := hm.dec
  obtain ⟨henc, hdict, hdeltaIn, hsecData, hsecInst, hsecAddr, hcarry, -, htgtOut⟩ := hs
  refine ⟨by rw [hm.enc]; exact henc, ?_⟩
  rw [hdec]
  exact ⟨hdict, hdeltaIn, hsecData, hsecInst, hsecAddr, hcarry, rfl, Memory.wf_append htgtOut _⟩

/-- Settles O59, by the effects a step can have: each keeps every memory in canonical form, a new session's dictionary included. -/
theorem stepKeepsMemoryWf : Obligations.StepKeepsMemoryWf := by
  intro s t hs h
  rcases step_effects h with rfl | ⟨-, o, rest, -, -, ⟨-, hm⟩ | ⟨-, hm⟩⟩ | ⟨-, rest, cfg, dict, -, rfl⟩ |
    ⟨-, rest, cfg, dict, -, rfl⟩ | ⟨-, hm | hm⟩
  · exact hs
  · exact hm.memoryWf hs
  · exact hm.memoryWf hs
  · exact ⟨Encoder.memoryWf_reset (Memory.ofBytes_wf dict) cfg, hs.2⟩
  · exact ⟨hs.1, Decoder.memoryWf_reset (Memory.ofBytes_wf dict) cfg⟩
  · exact hm.memoryWf hs
  · exact hm.memoryWf hs

/-- Settles O58: a new session over a dictionary in canonical form is in canonical form, and sound where it has a near slot. -/
theorem resetIsGood : Obligations.ResetIsGood := by
  have hnear : 1 ≤ defaultCfg.nearSize := by decide
  exact ⟨⟨Encoder.memoryWf_reset rfl _, Decoder.memoryWf_reset rfl _⟩,
    fun _ => Encoder.sound_reset hnear [], fun _ => Decoder.sound_reset hnear []⟩

/-! ### A step in a body (log 6) -/

theorem State.instructionPass_fetches {s : State} (hwaiting : s.dec.waiting = none) (hpending : s.dec.pendingSecond = none)
    (htable : s.dec.cfg.codeTable = .standard) : s.instructionPass = s.fetchAndRun := by
  simp only [State.instructionPass, hwaiting, hpending, htable]

/-- Settles O5: a step that fetches decodes the bytes at `ipos` and runs what they say. -/
theorem stepRunsDecodedInstruction : Obligations.StepRunsDecodedInstruction := by
  intro s i rest ⟨hcall, hstage, hfull, hwaiting, hpending, htable⟩ hdecode _
  have hpass : s.bodyPass = s.fetchAndRun := by
    rw [State.bodyPass, if_pos hstage, if_neg (by simp [hfull]), State.instructionPass_fetches hwaiting hpending htable]
  rw [step_inBody hcall, hpass, ← Decoder.instructions_posAfter]
  simp only [State.fetchAndRun, hdecode]
  rfl

/-! ### The order of operations (R282, R283) -/

theorem State.settleEncode_seqOrder {s : State} {x : Act Encoder Value} (h : x = .err s.enc .seqOrder) :
    s.settleEncode x = .next (s.raise .encode .seqOrder) := by
  subst h
  rfl

theorem State.settleDecode_seqOrder {s : State} {x : Act Decoder Value} (h : x = .err s.dec .seqOrder) :
    s.settleDecode x = .next (s.raise .decode .seqOrder) := by
  subst h
  rfl

/-- R31: an operation of an encode session that needs a unit which is not ready. -/
theorem State.settleEncode_unready {s : State} {ready : Bool} (h : ready = false) (x : Act Encoder Value) :
    s.settleEncode (Act.requires ready s.enc x) = .next (s.raise .encode .seqOrder) :=
  State.settleEncode_seqOrder (by rw [h, Act.requires_false])

theorem State.opSerialize_unready {s : State} (h : s.enc.map.built = false ∨ s.enc.ws.ready = false) (x : Act Serializer Unit) :
    s.opSerialize x = .next (s.raise .encode .seqOrder) :=
  State.settleEncode_unready (Bool.and_eq_false_iff.mpr h) _

theorem wsStreamHeader_outOfOrder {e : Encoder} (h : e.ws.ready = false ∨ e.headerDone = true) :
    wsStreamHeader e = .err e .seqOrder := by
  have hready : (e.ws.ready && !e.headerDone) = false :=
    Bool.and_eq_false_iff.mpr (h.imp_right fun hdone => by rw [hdone]; rfl)
  rw [wsStreamHeader, hready, Act.requires_false]

theorem Decoder.sdHeader_outOfOrder {d : Decoder} (h : d.streamVersion ≠ none) : d.sdHeader = .err d .seqOrder := by
  have hread : d.streamVersion.isNone = false := Option.isNone_eq_false_iff.mpr (Option.isSome_iff_ne_none.mpr h)
  rw [Decoder.sdHeader, hread, Act.requires_false]

theorem Decoder.bdStart_outOfOrder {d : Decoder} (h : d.stage ≠ .parsed) : d.bdStart = .err d .seqOrder := by
  rw [Decoder.bdStart, beq_false_of_ne h, Act.requires_false]

theorem State.opBody_outOfOrder {s : State} {mode : WinMode} (h : s.dec.stage ≠ .started ∨ s.dec.win.mode ≠ mode) (c : Call) :
    s.opBody mode c = .next (s.raise .decode .seqOrder) := by
  rw [State.opBody, if_neg (by tauto)]

/-- Settles O56: each operation, in the order of the statement, tests its place before anything else. -/
theorem outOfOrderIsRefused : Obligations.OutOfOrderIsRefused := by
  intro s o rest hcall hops hfailed horder
  rw [step_op hcall hops, State.perform_running (s := { s with ops := rest }) hfailed]
  rcases horder with ⟨rfl, h⟩ | ⟨rfl, h⟩ | ⟨rfl, h⟩ | ⟨rfl | rfl | rfl, h⟩ | ⟨rfl, h⟩ | ⟨rfl, h⟩ |
    ⟨⟨_, _, _, rfl⟩, h⟩ | ⟨rfl, h⟩ | ⟨⟨_, _, _, _, rfl⟩, h⟩ | ⟨⟨_, _, _, rfl⟩, h⟩ | ⟨⟨_, rfl⟩, h⟩ | ⟨⟨_, _, rfl⟩, h⟩ |
    ⟨⟨_, _, rfl⟩, h⟩ | ⟨⟨_, rfl⟩, h⟩ | ⟨rfl, h⟩ | ⟨⟨_, rfl⟩, h⟩ | ⟨⟨_, rfl⟩, h⟩ <;>
    simp only [State.runOp]
  · exact State.settleDecode_seqOrder (by rw [Decoder.wdParse_outOfOrder h]; rfl)
  · exact State.settleDecode_seqOrder (by rw [Decoder.bdStart_outOfOrder h]; rfl)
  · exact State.settleDecode_seqOrder (by rw [Decoder.sdHeader_outOfOrder h]; rfl)
  · refine State.opBody_outOfOrder ?_ .bdRun
    exact .inl h
  · refine State.opBody_outOfOrder ?_ .bdStep
    exact .inl h
  · exact State.settleDecode_seqOrder (by rw [beq_false_of_ne h, Act.requires_false])
  · refine State.opBody_outOfOrder ?_ .bdRun
    exact .inr h
  · refine State.opBody_outOfOrder ?_ .bdStep
    exact .inr h
  · exact State.settleEncode_unready h _
  · exact State.settleEncode_unready h _
  · exact if_pos h
  · exact State.settleEncode_unready h _
  · refine State.opSerialize_unready ?_ _
    exact h
  · refine State.opSerialize_unready ?_ _
    exact h
  · refine State.opSerialize_unready ?_ _
    exact h
  · exact State.settleEncode_unready (Bool.and_eq_false_iff.mpr h) _
  · exact State.settleEncode_seqOrder (by rw [wsStreamHeader_outOfOrder h]; rfl)
  · exact State.settleEncode_unready (Bool.and_eq_false_iff.mpr h) _
  · exact State.settleEncode_unready h _

end Sys2Proof.Machine
end
